-- ==== Sys2Proof/Word.lean ====
section
/-! DEFINITION. The two word types of the GBX core (spec/00_scope.md R7, R12): a `u8` and a `u16`.
Both are bit vectors: the spec adds, masks and shifts them, and all their arithmetic wraps. -/

namespace Sys2Proof

/-- `u8` (R12). -/
abbrev Byte := BitVec 8

/-- `u16` (R12): register pairs, PC, SP, IX, IY and memory addresses (R7). -/
abbrev Word := BitVec 16

end Sys2Proof
end

