-- ==== Sys2Proof/Config.lean ====
section
/-! DEFINITION. What the platform fixes: the register and privilege names, the kinds of device, the
parameters of spec/00_scope.md R8 that have a default, and the values the spec leaves free (opaque
constants: no proof can see what they are). -/

namespace Sys2Proof

/-- The eleven 8-bit storage names of `Register` (spec/10_state.md R20). -/
inductive Reg8 where
  | b | c | d | e | h | l | a | f | ir | pir | regR
  deriving DecidableEq, Repr

/-- The four 16-bit storage names and the four pair views of `Register` (R20, R24). -/
inductive Reg16 where
  | pc | sp | ix | iy | hl | bc | de | af
  deriving DecidableEq, Repr

/-- The closed enumeration `Register` (R20). `IsPair` (R22) holds exactly of the second kind. -/
inductive Register where
  | r8 (x : Reg8)
  | r16 (x : Reg16)
  deriving DecidableEq, Repr

/-- The security level (R40), and equally a scope of the MemoryController (spec/20_memory.md R62). -/
inductive SecurityLevel where
  | system | user
  deriving DecidableEq, Repr

/-- A memory-mapped register seen as a device (spec/20_memory.md R72), with its own state.
DESIGN CHOICE (log 9): the kinds. -/
inductive Device where
  /-- A device the model has no functions for: a read is any byte, a write is absorbed (R72, D32). -/
  | unknown
  /-- Stores the last byte written and returns it on a read (the device of R65's worked property). -/
  | latch (value : Byte)
  /-- The LCD control register of R92: the last byte written, and how many times `EnableVideo()` and
  `DisableVideo()` have been called. The spec gives it no read function, so a read is any byte. -/
  | lcdControl (last : Byte) (enables disables : Nat)
  /-- A device of the platform whose functions are the free `Config.deviceRead`, `Config.deviceWrite`. -/
  | custom (id : Nat) (state : List Byte)
  deriving DecidableEq, Repr

namespace Config

/-- `PREFIX_BYTES` at its default (spec/00_scope.md R9, decision D1). Log 2. -/
def prefixBytes : List Byte := [0xCB, 0xDD, 0xFD, 0xFC]

/-- `RESET_PC` at its default (spec/10_state.md R51, decision D26). Log 2. -/
def resetPc : Word := 0x0000

/-- `LDU_SOURCE_SCOPE` at its default (spec/00_scope.md R8, decision D18). Log 2. -/
def lduSourceScope : SecurityLevel := .user

/-- `HIGH_WINDOW`, the base of implicit addressing, fixed by the source (spec/00_scope.md R8). -/
def highWindow : Word := 0xFF00

/-- The byte the k-th draw gives (spec/20_memory.md R72: "answers a read with any byte (a draw)").
A free value: nothing constrains it. Log 10. -/
opaque freeByte : Nat → Byte

/-- `g.Read` of a platform device (R72): from the device's id, its place in the list of devices and the
state of every device, the byte read and the state of every device after. Free. Log 9. -/
opaque deviceRead : Nat → Nat → List Device → Byte × List Device

/-- `g.Write` of a platform device (R72), as `deviceRead` with the byte written. Free. Log 9. -/
opaque deviceWrite : Nat → Nat → Byte → List Device → List Device

/-- `DEBUG_WIRE_MAP` (R8, D34): the register a byte names at the debug interface. Free. Log 20. -/
opaque debugWireMap : Byte → Option Register

end Config

end Sys2Proof
end

