-- ==== Sys2Proof/Syntax.lean ====
section
/-! DEFINITION. The instructions of the baseline table: one constructor per row of
spec/opcode_table.json, in the table's order, with the operands the row's fields and operand bytes
carry (spec/30_encoding.md R103, R104). Registers are named by `Reg8` and `Reg16`; which of them a
field can encode is checked in WellFormed.lean. -/

namespace Sys2Proof

/-- The four conditions of spec/46_control_transfer.md R350. -/
inductive Cond where
  | nz | z | nc | c
  deriving DecidableEq, Repr

/-- One constructor per row of spec/opcode_table.json. `IndX` is the memory operand `(X)`; `Inc`/`Dec`
after it steps the pair. -/
inductive Instr where
  /-- `NOP` (R309): no effect. -/
  | nop
  /-- `LD dd,nn` (R241): dd <- nn. -/
  | ldDdNn (dd : Reg16) (nn : Word)
  /-- `LD (BC),A` (R208): [BC] <- A. -/
  | ldIndBcA
  /-- `LD (DE),A` (R209): [DE] <- A. -/
  | ldIndDeA
  /-- `LD (HL+),A` (R212): [HL] <- A, then HL + 1. -/
  | ldIndHlIncA
  /-- `LD (HL-),A` (R213): [HL] <- A, then HL - 1. -/
  | ldIndHlDecA
  /-- `INC ss` (R302): ss <- ss + 1. -/
  | incSs (ss : Reg16)
  /-- `DEC ss` (R303): ss <- ss - 1. -/
  | decSs (ss : Reg16)
  /-- `INC r` (R285): r <- r + 1. -/
  | incR (r : Reg8)
  /-- `INC (HL)` (R286): [HL] <- [HL] + 1. -/
  | incIndHl
  /-- `DEC r` (R287): r <- r - 1. -/
  | decR (r : Reg8)
  /-- `DEC (HL)` (R288): [HL] <- [HL] - 1. -/
  | decIndHl
  /-- `LD r,n` (R202): r <- n. -/
  | ldRN (r : Reg8) (n : Byte)
  /-- `LD (HL),n` (R205): [HL] <- n. -/
  | ldIndHlN (n : Byte)
  /-- `RLCA` (R321): A rotated (RLC), Z cleared. -/
  | rlca
  /-- `RRCA` (R322): A rotated (RRC), Z cleared. -/
  | rrca
  /-- `RLA` (R323): A rotated (RL), Z cleared. -/
  | rla
  /-- `RRA` (R324): A rotated (RR), Z cleared. -/
  | rra
  /-- `LD (nn),SP` (R243): [nn], [nn + 1] <- SP. -/
  | ldIndNnSp (nn : Word)
  /-- `ADD HL,ss` (R301): HL <- HL + ss. -/
  | addHlSs (ss : Reg16)
  /-- `LD A,(BC)` (R206): A <- [BC]. -/
  | ldAIndBc
  /-- `LD A,(DE)` (R207): A <- [DE]. -/
  | ldAIndDe
  /-- `LD A,(HL+)` (R210): A <- [HL], HL + 1. -/
  | ldAIndHlInc
  /-- `LD A,(HL-)` (R211): A <- [HL], HL - 1. -/
  | ldAIndHlDec
  /-- `STOP` (R382): raises sig.stop. -/
  | stop
  /-- `JR e` (R355): PC <- PC + e. -/
  | jr (e : Byte)
  /-- `JR cc,e` (R356): PC <- PC + e when cc holds. -/
  | jrCc (cc : Cond) (e : Byte)
  /-- `DAA` (R305): decimal adjust A. -/
  | daa
  /-- `CPL` (R306): A <- ~A. -/
  | cpl
  /-- `SCF` (R307): CY <- 1. -/
  | scf
  /-- `CCF` (R308): CY <- 1 - CY. -/
  | ccf
  /-- `LD r,r'` (R201): r <- r'. -/
  | ldRR (r : Reg8) (r' : Reg8)
  /-- `LD r,(HL)` (R203): r <- [HL]. -/
  | ldRIndHl (r : Reg8)
  /-- `LD (HL),r` (R204): [HL] <- r. -/
  | ldIndHlR (r : Reg8)
  /-- `HALT` (R381): raises sig.halt. -/
  | halt
  /-- `ADD A,r` (R261): ADD with r. -/
  | addAR (r : Reg8)
  /-- `ADD A,(HL)` (R262): ADD with [HL]. -/
  | addAIndHl
  /-- `ADD A,n` (R263): ADD with n. -/
  | addAN (n : Byte)
  /-- `ADC A,r` (R264): ADC with r. -/
  | adcAR (r : Reg8)
  /-- `ADC A,(HL)` (R265): ADC with [HL]. -/
  | adcAIndHl
  /-- `ADC A,n` (R266): ADC with n. -/
  | adcAN (n : Byte)
  /-- `SUB r` (R267): SUB with r. -/
  | subR (r : Reg8)
  /-- `SUB (HL)` (R268): SUB with [HL]. -/
  | subIndHl
  /-- `SUB n` (R269): SUB with n. -/
  | subN (n : Byte)
  /-- `SBC A,r` (R270): SBC with r. -/
  | sbcAR (r : Reg8)
  /-- `SBC A,(HL)` (R271): SBC with [HL]. -/
  | sbcAIndHl
  /-- `SBC A,n` (R272): SBC with n. -/
  | sbcAN (n : Byte)
  /-- `AND r` (R273): AND with r. -/
  | andR (r : Reg8)
  /-- `AND (HL)` (R274): AND with [HL]. -/
  | andIndHl
  /-- `AND n` (R275): AND with n. -/
  | andN (n : Byte)
  /-- `XOR r` (R276): XOR with r. -/
  | xorR (r : Reg8)
  /-- `XOR (HL)` (R277): XOR with [HL]. -/
  | xorIndHl
  /-- `XOR n` (R278): XOR with n. -/
  | xorN (n : Byte)
  /-- `OR r` (R279): OR with r. -/
  | orR (r : Reg8)
  /-- `OR (HL)` (R280): OR with [HL]. -/
  | orIndHl
  /-- `OR n` (R281): OR with n. -/
  | orN (n : Byte)
  /-- `CP r` (R282): CP with r. -/
  | cpR (r : Reg8)
  /-- `CP (HL)` (R283): CP with [HL]. -/
  | cpIndHl
  /-- `CP n` (R284): CP with n. -/
  | cpN (n : Byte)
  /-- `RET cc` (R366): pop PC when cc holds. -/
  | retCc (cc : Cond)
  /-- `POP qq` (R246): qq <- popped pair. -/
  | popQq (qq : Reg16)
  /-- `JP cc,nn` (R353): PC <- nn when cc holds. -/
  | jpCc (cc : Cond) (nn : Word)
  /-- `JP nn` (R352): PC <- nn. -/
  | jp (nn : Word)
  /-- `CALL cc,nn` (R361): push PC, PC <- nn, when cc holds. -/
  | callCc (cc : Cond) (nn : Word)
  /-- `PUSH qq` (R245): push qq. -/
  | pushQq (qq : Reg16)
  /-- `RST t` (R372): push PC, PC <- 8 * t. -/
  | rst (t : BitVec 3)
  /-- `RET` (R365): pop PC. -/
  | ret
  /-- `CALL nn` (R360): push PC, PC <- nn. -/
  | call (nn : Word)
  /-- `RETI` (R367): pop PC, raises sig.cis. -/
  | reti
  /-- `LDH (n),A` (R219): [0xFF00 | n] <- A. -/
  | ldhIndNA (n : Byte)
  /-- `LD (C),A` (R217): [0xFF00 | C] <- A. -/
  | ldIndCA
  /-- `ADD SP,e` (R304): SP <- SP + e. -/
  | addSpE (e : Byte)
  /-- `JP (HL)` (R354): PC <- HL. -/
  | jpHl
  /-- `LD (nn),A` (R215): [nn] <- A. -/
  | ldIndNnA (nn : Word)
  /-- `LDH A,(n)` (R218): A <- [0xFF00 | n]. -/
  | ldhAIndN (n : Byte)
  /-- `LD A,(C)` (R216): A <- [0xFF00 | C]. -/
  | ldAIndC
  /-- `DI` (R383): clears sig.ime. -/
  | di
  /-- `LD HL,SP+e` (R244): HL <- SP + e. -/
  | ldHlSpE (e : Byte)
  /-- `LD SP,HL` (R242): SP <- HL. -/
  | ldSpHl
  /-- `LD A,(nn)` (R214): A <- [nn]. -/
  | ldAIndNn (nn : Word)
  /-- `EI` (R384): sets sig.ime. -/
  | ei
  /-- `RLC r` (R325): r <- RLC r. -/
  | rlcR (r : Reg8)
  /-- `RLC (HL)` (R326): [HL] <- RLC [HL]. -/
  | rlcIndHl
  /-- `RRC r` (R327): r <- RRC r. -/
  | rrcR (r : Reg8)
  /-- `RRC (HL)` (R328): [HL] <- RRC [HL]. -/
  | rrcIndHl
  /-- `RL r` (R329): r <- RL r. -/
  | rlR (r : Reg8)
  /-- `RL (HL)` (R330): [HL] <- RL [HL]. -/
  | rlIndHl
  /-- `RR r` (R331): r <- RR r. -/
  | rrR (r : Reg8)
  /-- `RR (HL)` (R332): [HL] <- RR [HL]. -/
  | rrIndHl
  /-- `SLA r` (R333): r <- SLA r. -/
  | slaR (r : Reg8)
  /-- `SLA (HL)` (R334): [HL] <- SLA [HL]. -/
  | slaIndHl
  /-- `SRA r` (R335): r <- SRA r. -/
  | sraR (r : Reg8)
  /-- `SRA (HL)` (R336): [HL] <- SRA [HL]. -/
  | sraIndHl
  /-- `SWAP r` (R337): r <- SWAP r. -/
  | swapR (r : Reg8)
  /-- `SWAP (HL)` (R338): [HL] <- SWAP [HL]. -/
  | swapIndHl
  /-- `SRL r` (R339): r <- SRL r. -/
  | srlR (r : Reg8)
  /-- `SRL (HL)` (R340): [HL] <- SRL [HL]. -/
  | srlIndHl
  /-- `BIT b,r` (R341): BIT bit b of r. -/
  | bitBR (b : BitVec 3) (r : Reg8)
  /-- `BIT b,(HL)` (R342): BIT bit b of [HL]. -/
  | bitBIndHl (b : BitVec 3)
  /-- `RES b,r` (R343): RES bit b of r. -/
  | resBR (b : BitVec 3) (r : Reg8)
  /-- `RES b,(HL)` (R344): RES bit b of [HL]. -/
  | resBIndHl (b : BitVec 3)
  /-- `SET b,r` (R345): SET bit b of r. -/
  | setBR (b : BitVec 3) (r : Reg8)
  /-- `SET b,(HL)` (R346): SET bit b of [HL]. -/
  | setBIndHl (b : BitVec 3)
  /-- `LD IX,nn` (R401): IX <- nn. -/
  | ldIxNn (nn : Word)
  /-- `LD r,(IX+d)` (R402): r <- [IX + d]. -/
  | ldRIndIx (r : Reg8) (d : Byte)
  /-- `LD (IX+d),r` (R403): [IX + d] <- r. -/
  | ldIndIxR (d : Byte) (r : Reg8)
  /-- `ADD A,(IX+d)` (R404): ADD with [IX + d]. -/
  | addAIndIx (d : Byte)
  /-- `ADC A,(IX+d)` (R405): ADC with [IX + d]. -/
  | adcAIndIx (d : Byte)
  /-- `SUB (IX+d)` (R406): SUB with [IX + d]. -/
  | subIndIx (d : Byte)
  /-- `SBC A,(IX+d)` (R407): SBC with [IX + d]. -/
  | sbcAIndIx (d : Byte)
  /-- `AND (IX+d)` (R408): AND with [IX + d]. -/
  | andIndIx (d : Byte)
  /-- `XOR (IX+d)` (R409): XOR with [IX + d]. -/
  | xorIndIx (d : Byte)
  /-- `OR (IX+d)` (R410): OR with [IX + d]. -/
  | orIndIx (d : Byte)
  /-- `CP (IX+d)` (R411): CP with [IX + d]. -/
  | cpIndIx (d : Byte)
  /-- `INC IX` (R412): IX <- IX + 1. -/
  | incIx
  /-- `DEC IX` (R413): IX <- IX - 1. -/
  | decIx
  /-- `ADD IX,pp` (R414): IX <- IX + pp. -/
  | addIxPp (pp : Reg16)
  /-- `PUSH IX` (R415): push IX. -/
  | pushIx
  /-- `POP IX` (R416): IX <- popped pair. -/
  | popIx
  /-- `LD SP,IX` (R417): SP <- IX. -/
  | ldSpIx
  /-- `JP (IX)` (R418): PC <- IX. -/
  | jpIx
  /-- `LD IY,nn` (R401): IY <- nn. -/
  | ldIyNn (nn : Word)
  /-- `LD r,(IY+d)` (R402): r <- [IY + d]. -/
  | ldRIndIy (r : Reg8) (d : Byte)
  /-- `LD (IY+d),r` (R403): [IY + d] <- r. -/
  | ldIndIyR (d : Byte) (r : Reg8)
  /-- `ADD A,(IY+d)` (R404): ADD with [IY + d]. -/
  | addAIndIy (d : Byte)
  /-- `ADC A,(IY+d)` (R405): ADC with [IY + d]. -/
  | adcAIndIy (d : Byte)
  /-- `SUB (IY+d)` (R406): SUB with [IY + d]. -/
  | subIndIy (d : Byte)
  /-- `SBC A,(IY+d)` (R407): SBC with [IY + d]. -/
  | sbcAIndIy (d : Byte)
  /-- `AND (IY+d)` (R408): AND with [IY + d]. -/
  | andIndIy (d : Byte)
  /-- `XOR (IY+d)` (R409): XOR with [IY + d]. -/
  | xorIndIy (d : Byte)
  /-- `OR (IY+d)` (R410): OR with [IY + d]. -/
  | orIndIy (d : Byte)
  /-- `CP (IY+d)` (R411): CP with [IY + d]. -/
  | cpIndIy (d : Byte)
  /-- `INC IY` (R412): IY <- IY + 1. -/
  | incIy
  /-- `DEC IY` (R413): IY <- IY - 1. -/
  | decIy
  /-- `ADD IY,pp` (R414): IY <- IY + pp. -/
  | addIyPp (pp : Reg16)
  /-- `PUSH IY` (R415): push IY. -/
  | pushIy
  /-- `POP IY` (R416): IY <- popped pair. -/
  | popIy
  /-- `LD SP,IY` (R417): SP <- IY. -/
  | ldSpIy
  /-- `JP (IY)` (R418): PC <- IY. -/
  | jpIy
  /-- `LDU r,(HL)` (R387): r <- User [HL]. -/
  | lduRIndHl (r : Reg8)
  /-- `LDU A,(BC)` (R388): A <- User [BC]. -/
  | lduAIndBc
  /-- `LDU A,(DE)` (R389): A <- User [DE]. -/
  | lduAIndDe
  /-- `LDU A,(HL+)` (R390): A <- User [HL], HL + 1. -/
  | lduAIndHlInc
  /-- `LDU A,(HL-)` (R391): A <- User [HL], HL - 1. -/
  | lduAIndHlDec
  /-- `JPU nn` (R392): PC <- nn, raises sig.umr. -/
  | jpuNn (nn : Word)
  deriving DecidableEq, Repr

end Sys2Proof
end

