-- ==== Sys2Proof/WellFormed.lean ====
section
/-! DEFINITION. Which instruction terms have an encoding: a register operand must be one the field's
code table holds (spec/10_state.md R34 to R36, R38; spec/48_index.md R414 for `pp`). Every other
operand (conditions, bit and restart indices, immediate bytes) is well formed by its type. -/

namespace Sys2Proof

/-- The 8-bit registers with a 3-bit code: B, C, D, E, H, L, A (R34); F, IR, PIR and R have none (R38). -/
def Reg8.hasCode : Reg8 → Bool
  | .b | .c | .d | .e | .h | .l | .a => true
  | .f | .ir | .pir | .regR => false

/-- The pairs of the 2-bit pair code: BC, DE, HL, SP (R35). -/
def Reg16.hasPairCode : Reg16 → Bool
  | .bc | .de | .hl | .sp => true
  | .pc | .ix | .iy | .af => false

/-- The pairs of the push/pop code: BC, DE, HL, AF (R36). -/
def Reg16.hasStackCode : Reg16 → Bool
  | .bc | .de | .hl | .af => true
  | .pc | .ix | .iy | .sp => false

/-- The pairs of `ADD IX,pp`: BC, DE, IX, SP (R414). -/
def Reg16.hasIxCode : Reg16 → Bool
  | .bc | .de | .ix | .sp => true
  | .pc | .iy | .hl | .af => false

/-- The pairs of `ADD IY,pp`: BC, DE, IY, SP (R414). -/
def Reg16.hasIyCode : Reg16 → Bool
  | .bc | .de | .iy | .sp => true
  | .pc | .ix | .hl | .af => false

/-- The instruction has an encoding in the baseline table. -/
def Instr.wellFormed : Instr → Bool
  | .nop => true
  | .ldDdNn dd _ => dd.hasPairCode
  | .ldIndBcA => true
  | .ldIndDeA => true
  | .ldIndHlIncA => true
  | .ldIndHlDecA => true
  | .incSs ss => ss.hasPairCode
  | .decSs ss => ss.hasPairCode
  | .incR r => r.hasCode
  | .incIndHl => true
  | .decR r => r.hasCode
  | .decIndHl => true
  | .ldRN r _ => r.hasCode
  | .ldIndHlN _ => true
  | .rlca => true
  | .rrca => true
  | .rla => true
  | .rra => true
  | .ldIndNnSp _ => true
  | .addHlSs ss => ss.hasPairCode
  | .ldAIndBc => true
  | .ldAIndDe => true
  | .ldAIndHlInc => true
  | .ldAIndHlDec => true
  | .stop => true
  | .jr _ => true
  | .jrCc _ _ => true
  | .daa => true
  | .cpl => true
  | .scf => true
  | .ccf => true
  | .ldRR r r' => r.hasCode && r'.hasCode
  | .ldRIndHl r => r.hasCode
  | .ldIndHlR r => r.hasCode
  | .halt => true
  | .addAR r => r.hasCode
  | .addAIndHl => true
  | .addAN _ => true
  | .adcAR r => r.hasCode
  | .adcAIndHl => true
  | .adcAN _ => true
  | .subR r => r.hasCode
  | .subIndHl => true
  | .subN _ => true
  | .sbcAR r => r.hasCode
  | .sbcAIndHl => true
  | .sbcAN _ => true
  | .andR r => r.hasCode
  | .andIndHl => true
  | .andN _ => true
  | .xorR r => r.hasCode
  | .xorIndHl => true
  | .xorN _ => true
  | .orR r => r.hasCode
  | .orIndHl => true
  | .orN _ => true
  | .cpR r => r.hasCode
  | .cpIndHl => true
  | .cpN _ => true
  | .retCc _ => true
  | .popQq qq => qq.hasStackCode
  | .jpCc _ _ => true
  | .jp _ => true
  | .callCc _ _ => true
  | .pushQq qq => qq.hasStackCode
  | .rst _ => true
  | .ret => true
  | .call _ => true
  | .reti => true
  | .ldhIndNA _ => true
  | .ldIndCA => true
  | .addSpE _ => true
  | .jpHl => true
  | .ldIndNnA _ => true
  | .ldhAIndN _ => true
  | .ldAIndC => true
  | .di => true
  | .ldHlSpE _ => true
  | .ldSpHl => true
  | .ldAIndNn _ => true
  | .ei => true
  | .rlcR r => r.hasCode
  | .rlcIndHl => true
  | .rrcR r => r.hasCode
  | .rrcIndHl => true
  | .rlR r => r.hasCode
  | .rlIndHl => true
  | .rrR r => r.hasCode
  | .rrIndHl => true
  | .slaR r => r.hasCode
  | .slaIndHl => true
  | .sraR r => r.hasCode
  | .sraIndHl => true
  | .swapR r => r.hasCode
  | .swapIndHl => true
  | .srlR r => r.hasCode
  | .srlIndHl => true
  | .bitBR _ r => r.hasCode
  | .bitBIndHl _ => true
  | .resBR _ r => r.hasCode
  | .resBIndHl _ => true
  | .setBR _ r => r.hasCode
  | .setBIndHl _ => true
  | .ldIxNn _ => true
  | .ldRIndIx r _ => r.hasCode
  | .ldIndIxR _ r => r.hasCode
  | .addAIndIx _ => true
  | .adcAIndIx _ => true
  | .subIndIx _ => true
  | .sbcAIndIx _ => true
  | .andIndIx _ => true
  | .xorIndIx _ => true
  | .orIndIx _ => true
  | .cpIndIx _ => true
  | .incIx => true
  | .decIx => true
  | .addIxPp pp => pp.hasIxCode
  | .pushIx => true
  | .popIx => true
  | .ldSpIx => true
  | .jpIx => true
  | .ldIyNn _ => true
  | .ldRIndIy r _ => r.hasCode
  | .ldIndIyR _ r => r.hasCode
  | .addAIndIy _ => true
  | .adcAIndIy _ => true
  | .subIndIy _ => true
  | .sbcAIndIy _ => true
  | .andIndIy _ => true
  | .xorIndIy _ => true
  | .orIndIy _ => true
  | .cpIndIy _ => true
  | .incIy => true
  | .decIy => true
  | .addIyPp pp => pp.hasIyCode
  | .pushIy => true
  | .popIy => true
  | .ldSpIy => true
  | .jpIy => true
  | .lduRIndHl r => r.hasCode
  | .lduAIndBc => true
  | .lduAIndDe => true
  | .lduAIndHlInc => true
  | .lduAIndHlDec => true
  | .jpuNn _ => true

end Sys2Proof
end

