-- ==== Sys2Proof/Decode.lean ====
section
/-! DEFINITION. From bytes to instructions and back: the byte-order and field helpers, the register-code
tables (spec/10_state.md R34 to R37), the opcode table as a list of rows (spec/30_encoding.md R105 to
R109, spec/opcode_table.json), the decoder, total on any bytes, and the encoder. -/

namespace Sys2Proof

/-! ### Bit and byte helpers (spec/00_scope.md R12) -/

/-- `lo(v)`. -/
def lo (v : Word) : Byte := v.extractLsb' 0 8

/-- `hi(v)`. -/
def hi (v : Word) : Byte := v.extractLsb' 8 8

/-- `a:b`, with a in the high bits. -/
def join (a b : Byte) : Word := a ++ b

/-- `sext_16(v)`. -/
def sext (v : Byte) : Word := v.signExtend 16

/-- `zext_16(v)`. -/
def zext (v : Byte) : Word := v.setWidth 16

/-- `0xFF00 | zext_16(b)`: the high-memory window (spec/30_encoding.md R104 (d)). -/
def highAddress (b : Byte) : Word := Config.highWindow ||| zext b

/-! ### Fields of IR (R103) -/

/-- y = IR[5:3]. -/
def fieldY (ir : Byte) : Byte := (ir >>> 3) &&& 0x07

/-- z = IR[2:0]. -/
def fieldZ (ir : Byte) : Byte := ir &&& 0x07

/-- p = IR[5:4]. -/
def fieldP (ir : Byte) : Byte := (ir >>> 4) &&& 0x03

/-- cc = IR[4:3] (R114). -/
def fieldCc (ir : Byte) : Byte := (ir >>> 3) &&& 0x03

/-- The bit index b or restart index t = IR[5:3] (R115). -/
def bitIndexOf (ir : Byte) : BitVec 3 := ir.extractLsb' 3 3

/-! ### Register and condition codes. `none` is the RegisterBank error of R37. -/

/-- The 3-bit code of the 8-bit registers (R34). -/
def reg8OfCode (c : Byte) : Option Reg8 :=
  match c.toNat with
  | 0 => some .b
  | 1 => some .c
  | 2 => some .d
  | 3 => some .e
  | 4 => some .h
  | 5 => some .l
  | 7 => some .a
  | _ => none

/-- The 2-bit code of register pairs (R35). -/
def pairOfCode (c : Byte) : Option Reg16 :=
  match c.toNat with
  | 0 => some .bc
  | 1 => some .de
  | 2 => some .hl
  | 3 => some .sp
  | _ => none

/-- The 2-bit push/pop code (R36). -/
def stackPairOfCode (c : Byte) : Option Reg16 :=
  match c.toNat with
  | 0 => some .bc
  | 1 => some .de
  | 2 => some .hl
  | 3 => some .af
  | _ => none

/-- The pair code of `ADD IX,pp` (spec/48_index.md R414). -/
def ixPairOfCode (c : Byte) : Option Reg16 :=
  match c.toNat with
  | 0 => some .bc
  | 1 => some .de
  | 2 => some .ix
  | 3 => some .sp
  | _ => none

/-- The pair code of `ADD IY,pp` (R414). -/
def iyPairOfCode (c : Byte) : Option Reg16 :=
  match c.toNat with
  | 0 => some .bc
  | 1 => some .de
  | 2 => some .iy
  | 3 => some .sp
  | _ => none

/-- The condition code (R114). -/
def condOfCode (c : Byte) : Option Cond :=
  match c.toNat with
  | 0 => some .nz
  | 1 => some .z
  | 2 => some .nc
  | 3 => some .c
  | _ => none

/-- Register to 3-bit code (R34, R37). -/
def Reg8.code : Reg8 → Option Byte
  | .b => some 0
  | .c => some 1
  | .d => some 2
  | .e => some 3
  | .h => some 4
  | .l => some 5
  | .a => some 7
  | .f => none
  | .ir => none
  | .pir => none
  | .regR => none

/-- Pair to 2-bit code (R35, R37). -/
def Reg16.pairCode : Reg16 → Option Byte
  | .bc => some 0
  | .de => some 1
  | .hl => some 2
  | .sp => some 3
  | .pc => none
  | .ix => none
  | .iy => none
  | .af => none

/-- Pair to push/pop code (R36, R37). -/
def Reg16.stackCode : Reg16 → Option Byte
  | .bc => some 0
  | .de => some 1
  | .hl => some 2
  | .af => some 3
  | .pc => none
  | .ix => none
  | .iy => none
  | .sp => none

/-- Pair to the code of `ADD IX,pp` (R414). -/
def Reg16.ixCode : Reg16 → Option Byte
  | .bc => some 0
  | .de => some 1
  | .ix => some 2
  | .sp => some 3
  | .pc => none
  | .iy => none
  | .hl => none
  | .af => none

/-- Pair to the code of `ADD IY,pp` (R414). -/
def Reg16.iyCode : Reg16 → Option Byte
  | .bc => some 0
  | .de => some 1
  | .iy => some 2
  | .sp => some 3
  | .pc => none
  | .ix => none
  | .hl => none
  | .af => none

/-- Condition to its code, `di.extra` of a conditional encoding (spec/46_control_transfer.md R350). -/
def Cond.code : Cond → Byte
  | .nz => 0
  | .z => 1
  | .nc => 2
  | .c => 3

/-! ### The opcode table (R10, R116) -/

/-- An instruction still waiting for its operand bytes: none, one, or two (low byte first, R104). -/
inductive Template where
  | op0 (i : Instr)
  | op1 (f : Byte → Instr)
  | op2 (f : Word → Instr)

/-- How many operand-at-PC bytes the mode of the instruction reads (R102). -/
def Template.operandCount : Template → Nat
  | .op0 _ => 0
  | .op1 _ => 1
  | .op2 _ => 2

/-- One row of the table over the key `(PIR << 8) | IR` (R116): a key k matches when
`k & mask = pattern` and the row's `where` holds of IR; `build` is the row's Decode. -/
structure Row where
  mnemonic : String
  pattern : Word
  mask : Word
  guard : Byte → Bool
  build : Byte → Option Template

/-- A key matches the row (R116). -/
def Row.accepts (row : Row) (pir ir : Byte) : Bool :=
  (join pir ir &&& row.mask) == row.pattern && row.guard ir


/-- R105: the primary page, PIR = 0, part 1. -/
def primaryRows1 : List Row := [
   { mnemonic := "NOP", pattern := 0x0000, mask := 0xFFFF, guard := fun _ => true,
     build := fun _ => some (.op0 .nop) },
   { mnemonic := "LD_dd_nn", pattern := 0x0001, mask := 0xFFCF, guard := fun _ => true,
     build := fun ir => (pairOfCode (fieldP ir)).bind fun dd => some (.op2 (fun nn => .ldDdNn dd nn)) },
   { mnemonic := "LD__BC__A", pattern := 0x0002, mask := 0xFFFF, guard := fun _ => true,
     build := fun _ => some (.op0 .ldIndBcA) },
   { mnemonic := "LD__DE__A", pattern := 0x0012, mask := 0xFFFF, guard := fun _ => true,
     build := fun _ => some (.op0 .ldIndDeA) },
   { mnemonic := "LD__HL+__A", pattern := 0x0022, mask := 0xFFFF, guard := fun _ => true,
     build := fun _ => some (.op0 .ldIndHlIncA) },
   { mnemonic := "LD__HL-__A", pattern := 0x0032, mask := 0xFFFF, guard := fun _ => true,
     build := fun _ => some (.op0 .ldIndHlDecA) },
   { mnemonic := "INC_ss", pattern := 0x0003, mask := 0xFFCF, guard := fun _ => true,
     build := fun ir => (pairOfCode (fieldP ir)).bind fun ss => some (.op0 (.incSs ss)) },
   { mnemonic := "DEC_ss", pattern := 0x000B, mask := 0xFFCF, guard := fun _ => true,
     build := fun ir => (pairOfCode (fieldP ir)).bind fun ss => some (.op0 (.decSs ss)) },
   { mnemonic := "INC_r", pattern := 0x0004, mask := 0xFFC7, guard := fun ir => fieldY ir != 6,
     build := fun ir => (reg8OfCode (fieldY ir)).bind fun r => some (.op0 (.incR r)) },
   { mnemonic := "INC__HL", pattern := 0x0034, mask := 0xFFFF, guard := fun _ => true,
     build := fun _ => some (.op0 .incIndHl) },
   { mnemonic := "DEC_r", pattern := 0x0005, mask := 0xFFC7, guard := fun ir => fieldY ir != 6,
     build := fun ir => (reg8OfCode (fieldY ir)).bind fun r => some (.op0 (.decR r)) },
   { mnemonic := "DEC__HL", pattern := 0x0035, mask := 0xFFFF, guard := fun _ => true,
     build := fun _ => some (.op0 .decIndHl) },
   { mnemonic := "LD_r_n", pattern := 0x0006, mask := 0xFFC7, guard := fun ir => fieldY ir != 6,
     build := fun ir => (reg8OfCode (fieldY ir)).bind fun r => some (.op1 (fun n => .ldRN r n)) },
   { mnemonic := "LD__HL__n", pattern := 0x0036, mask := 0xFFFF, guard := fun _ => true,
     build := fun _ => some (.op1 (fun n => .ldIndHlN n)) },
   { mnemonic := "RLCA", pattern := 0x0007, mask := 0xFFFF, guard := fun _ => true,
     build := fun _ => some (.op0 .rlca) },
   { mnemonic := "RRCA", pattern := 0x000F, mask := 0xFFFF, guard := fun _ => true,
     build := fun _ => some (.op0 .rrca) },
   { mnemonic := "RLA", pattern := 0x0017, mask := 0xFFFF, guard := fun _ => true,
     build := fun _ => some (.op0 .rla) },
   { mnemonic := "RRA", pattern := 0x001F, mask := 0xFFFF, guard := fun _ => true,
     build := fun _ => some (.op0 .rra) },
   { mnemonic := "LD__nn__SP", pattern := 0x0008, mask := 0xFFFF, guard := fun _ => true,
     build := fun _ => some (.op2 (fun nn => .ldIndNnSp nn)) },
   { mnemonic := "ADD_HL_ss", pattern := 0x0009, mask := 0xFFCF, guard := fun _ => true,
     build := fun ir => (pairOfCode (fieldP ir)).bind fun ss => some (.op0 (.addHlSs ss)) } ]

/-- R105: the primary page, PIR = 0, part 2. -/
def primaryRows2 : List Row := [
   { mnemonic := "LD_A__BC", pattern := 0x000A, mask := 0xFFFF, guard := fun _ => true,
     build := fun _ => some (.op0 .ldAIndBc) },
   { mnemonic := "LD_A__DE", pattern := 0x001A, mask := 0xFFFF, guard := fun _ => true,
     build := fun _ => some (.op0 .ldAIndDe) },
   { mnemonic := "LD_A__HL+", pattern := 0x002A, mask := 0xFFFF, guard := fun _ => true,
     build := fun _ => some (.op0 .ldAIndHlInc) },
   { mnemonic := "LD_A__HL-", pattern := 0x003A, mask := 0xFFFF, guard := fun _ => true,
     build := fun _ => some (.op0 .ldAIndHlDec) },
   { mnemonic := "STOP", pattern := 0x0010, mask := 0xFFFF, guard := fun _ => true,
     build := fun _ => some (.op0 .stop) },
   { mnemonic := "JR_e", pattern := 0x0018, mask := 0xFFFF, guard := fun _ => true,
     build := fun _ => some (.op1 (fun e => .jr e)) },
   { mnemonic := "JR_cc_e", pattern := 0x0020, mask := 0xFFE7, guard := fun _ => true,
     build := fun ir => (condOfCode (fieldCc ir)).bind fun cc => some (.op1 (fun e => .jrCc cc e)) },
   { mnemonic := "DAA", pattern := 0x0027, mask := 0xFFFF, guard := fun _ => true,
     build := fun _ => some (.op0 .daa) },
   { mnemonic := "CPL", pattern := 0x002F, mask := 0xFFFF, guard := fun _ => true,
     build := fun _ => some (.op0 .cpl) },
   { mnemonic := "SCF", pattern := 0x0037, mask := 0xFFFF, guard := fun _ => true,
     build := fun _ => some (.op0 .scf) },
   { mnemonic := "CCF", pattern := 0x003F, mask := 0xFFFF, guard := fun _ => true,
     build := fun _ => some (.op0 .ccf) },
   { mnemonic := "LD_r_r", pattern := 0x0040, mask := 0xFFC0, guard := fun ir => fieldY ir != 6 && fieldZ ir != 6,
     build := fun ir => (reg8OfCode (fieldY ir)).bind fun r => (reg8OfCode (fieldZ ir)).bind fun r' => some (.op0 (.ldRR r r')) },
   { mnemonic := "LD_r__HL", pattern := 0x0046, mask := 0xFFC7, guard := fun ir => fieldY ir != 6,
     build := fun ir => (reg8OfCode (fieldY ir)).bind fun r => some (.op0 (.ldRIndHl r)) },
   { mnemonic := "LD__HL__r", pattern := 0x0070, mask := 0xFFF8, guard := fun ir => fieldZ ir != 6,
     build := fun ir => (reg8OfCode (fieldZ ir)).bind fun r => some (.op0 (.ldIndHlR r)) },
   { mnemonic := "HALT", pattern := 0x0076, mask := 0xFFFF, guard := fun _ => true,
     build := fun _ => some (.op0 .halt) },
   { mnemonic := "ADD_A_r", pattern := 0x0080, mask := 0xFFF8, guard := fun ir => fieldZ ir != 6,
     build := fun ir => (reg8OfCode (fieldZ ir)).bind fun r => some (.op0 (.addAR r)) },
   { mnemonic := "ADD_A__HL", pattern := 0x0086, mask := 0xFFFF, guard := fun _ => true,
     build := fun _ => some (.op0 .addAIndHl) },
   { mnemonic := "ADD_A_n", pattern := 0x00C6, mask := 0xFFFF, guard := fun _ => true,
     build := fun _ => some (.op1 (fun n => .addAN n)) },
   { mnemonic := "ADC_A_r", pattern := 0x0088, mask := 0xFFF8, guard := fun ir => fieldZ ir != 6,
     build := fun ir => (reg8OfCode (fieldZ ir)).bind fun r => some (.op0 (.adcAR r)) },
   { mnemonic := "ADC_A__HL", pattern := 0x008E, mask := 0xFFFF, guard := fun _ => true,
     build := fun _ => some (.op0 .adcAIndHl) } ]

/-- R105: the primary page, PIR = 0, part 3. -/
def primaryRows3 : List Row := [
   { mnemonic := "ADC_A_n", pattern := 0x00CE, mask := 0xFFFF, guard := fun _ => true,
     build := fun _ => some (.op1 (fun n => .adcAN n)) },
   { mnemonic := "SUB_r", pattern := 0x0090, mask := 0xFFF8, guard := fun ir => fieldZ ir != 6,
     build := fun ir => (reg8OfCode (fieldZ ir)).bind fun r => some (.op0 (.subR r)) },
   { mnemonic := "SUB__HL", pattern := 0x0096, mask := 0xFFFF, guard := fun _ => true,
     build := fun _ => some (.op0 .subIndHl) },
   { mnemonic := "SUB_n", pattern := 0x00D6, mask := 0xFFFF, guard := fun _ => true,
     build := fun _ => some (.op1 (fun n => .subN n)) },
   { mnemonic := "SBC_A_r", pattern := 0x0098, mask := 0xFFF8, guard := fun ir => fieldZ ir != 6,
     build := fun ir => (reg8OfCode (fieldZ ir)).bind fun r => some (.op0 (.sbcAR r)) },
   { mnemonic := "SBC_A__HL", pattern := 0x009E, mask := 0xFFFF, guard := fun _ => true,
     build := fun _ => some (.op0 .sbcAIndHl) },
   { mnemonic := "SBC_A_n", pattern := 0x00DE, mask := 0xFFFF, guard := fun _ => true,
     build := fun _ => some (.op1 (fun n => .sbcAN n)) },
   { mnemonic := "AND_r", pattern := 0x00A0, mask := 0xFFF8, guard := fun ir => fieldZ ir != 6,
     build := fun ir => (reg8OfCode (fieldZ ir)).bind fun r => some (.op0 (.andR r)) },
   { mnemonic := "AND__HL", pattern := 0x00A6, mask := 0xFFFF, guard := fun _ => true,
     build := fun _ => some (.op0 .andIndHl) },
   { mnemonic := "AND_n", pattern := 0x00E6, mask := 0xFFFF, guard := fun _ => true,
     build := fun _ => some (.op1 (fun n => .andN n)) },
   { mnemonic := "XOR_r", pattern := 0x00A8, mask := 0xFFF8, guard := fun ir => fieldZ ir != 6,
     build := fun ir => (reg8OfCode (fieldZ ir)).bind fun r => some (.op0 (.xorR r)) },
   { mnemonic := "XOR__HL", pattern := 0x00AE, mask := 0xFFFF, guard := fun _ => true,
     build := fun _ => some (.op0 .xorIndHl) },
   { mnemonic := "XOR_n", pattern := 0x00EE, mask := 0xFFFF, guard := fun _ => true,
     build := fun _ => some (.op1 (fun n => .xorN n)) },
   { mnemonic := "OR_r", pattern := 0x00B0, mask := 0xFFF8, guard := fun ir => fieldZ ir != 6,
     build := fun ir => (reg8OfCode (fieldZ ir)).bind fun r => some (.op0 (.orR r)) },
   { mnemonic := "OR__HL", pattern := 0x00B6, mask := 0xFFFF, guard := fun _ => true,
     build := fun _ => some (.op0 .orIndHl) },
   { mnemonic := "OR_n", pattern := 0x00F6, mask := 0xFFFF, guard := fun _ => true,
     build := fun _ => some (.op1 (fun n => .orN n)) },
   { mnemonic := "CP_r", pattern := 0x00B8, mask := 0xFFF8, guard := fun ir => fieldZ ir != 6,
     build := fun ir => (reg8OfCode (fieldZ ir)).bind fun r => some (.op0 (.cpR r)) },
   { mnemonic := "CP__HL", pattern := 0x00BE, mask := 0xFFFF, guard := fun _ => true,
     build := fun _ => some (.op0 .cpIndHl) },
   { mnemonic := "CP_n", pattern := 0x00FE, mask := 0xFFFF, guard := fun _ => true,
     build := fun _ => some (.op1 (fun n => .cpN n)) },
   { mnemonic := "RET_cc", pattern := 0x00C0, mask := 0xFFE7, guard := fun _ => true,
     build := fun ir => (condOfCode (fieldCc ir)).bind fun cc => some (.op0 (.retCc cc)) } ]

/-- R105: the primary page, PIR = 0, part 4. -/
def primaryRows4 : List Row := [
   { mnemonic := "POP_qq", pattern := 0x00C1, mask := 0xFFCF, guard := fun _ => true,
     build := fun ir => (stackPairOfCode (fieldP ir)).bind fun qq => some (.op0 (.popQq qq)) },
   { mnemonic := "JP_cc_nn", pattern := 0x00C2, mask := 0xFFE7, guard := fun _ => true,
     build := fun ir => (condOfCode (fieldCc ir)).bind fun cc => some (.op2 (fun nn => .jpCc cc nn)) },
   { mnemonic := "JP_nn", pattern := 0x00C3, mask := 0xFFFF, guard := fun _ => true,
     build := fun _ => some (.op2 (fun nn => .jp nn)) },
   { mnemonic := "CALL_cc_nn", pattern := 0x00C4, mask := 0xFFE7, guard := fun _ => true,
     build := fun ir => (condOfCode (fieldCc ir)).bind fun cc => some (.op2 (fun nn => .callCc cc nn)) },
   { mnemonic := "PUSH_qq", pattern := 0x00C5, mask := 0xFFCF, guard := fun _ => true,
     build := fun ir => (stackPairOfCode (fieldP ir)).bind fun qq => some (.op0 (.pushQq qq)) },
   { mnemonic := "RST_t", pattern := 0x00C7, mask := 0xFFC7, guard := fun _ => true,
     build := fun ir => some (.op0 (.rst (bitIndexOf ir))) },
   { mnemonic := "RET", pattern := 0x00C9, mask := 0xFFFF, guard := fun _ => true,
     build := fun _ => some (.op0 .ret) },
   { mnemonic := "CALL_nn", pattern := 0x00CD, mask := 0xFFFF, guard := fun _ => true,
     build := fun _ => some (.op2 (fun nn => .call nn)) },
   { mnemonic := "RETI", pattern := 0x00D9, mask := 0xFFFF, guard := fun _ => true,
     build := fun _ => some (.op0 .reti) },
   { mnemonic := "LDH__n__A", pattern := 0x00E0, mask := 0xFFFF, guard := fun _ => true,
     build := fun _ => some (.op1 (fun n => .ldhIndNA n)) },
   { mnemonic := "LD__C__A", pattern := 0x00E2, mask := 0xFFFF, guard := fun _ => true,
     build := fun _ => some (.op0 .ldIndCA) },
   { mnemonic := "ADD_SP_e", pattern := 0x00E8, mask := 0xFFFF, guard := fun _ => true,
     build := fun _ => some (.op1 (fun e => .addSpE e)) },
   { mnemonic := "JP__HL", pattern := 0x00E9, mask := 0xFFFF, guard := fun _ => true,
     build := fun _ => some (.op0 .jpHl) },
   { mnemonic := "LD__nn__A", pattern := 0x00EA, mask := 0xFFFF, guard := fun _ => true,
     build := fun _ => some (.op2 (fun nn => .ldIndNnA nn)) },
   { mnemonic := "LDH_A__n", pattern := 0x00F0, mask := 0xFFFF, guard := fun _ => true,
     build := fun _ => some (.op1 (fun n => .ldhAIndN n)) },
   { mnemonic := "LD_A__C", pattern := 0x00F2, mask := 0xFFFF, guard := fun _ => true,
     build := fun _ => some (.op0 .ldAIndC) },
   { mnemonic := "DI", pattern := 0x00F3, mask := 0xFFFF, guard := fun _ => true,
     build := fun _ => some (.op0 .di) },
   { mnemonic := "LD_HL_SP+e", pattern := 0x00F8, mask := 0xFFFF, guard := fun _ => true,
     build := fun _ => some (.op1 (fun e => .ldHlSpE e)) },
   { mnemonic := "LD_SP_HL", pattern := 0x00F9, mask := 0xFFFF, guard := fun _ => true,
     build := fun _ => some (.op0 .ldSpHl) },
   { mnemonic := "LD_A__nn", pattern := 0x00FA, mask := 0xFFFF, guard := fun _ => true,
     build := fun _ => some (.op2 (fun nn => .ldAIndNn nn)) } ]

/-- R105: the primary page, PIR = 0, part 5. -/
def primaryRows5 : List Row := [
   { mnemonic := "EI", pattern := 0x00FB, mask := 0xFFFF, guard := fun _ => true,
     build := fun _ => some (.op0 .ei) } ]

/-- R105: the primary page, PIR = 0. -/
def primaryRows : List Row := primaryRows1 ++ primaryRows2 ++ primaryRows3 ++ primaryRows4 ++ primaryRows5

/-- R107: the page of prefix 0xCB, part 1. -/
def cbRows1 : List Row := [
   { mnemonic := "RLC_r", pattern := 0xCB00, mask := 0xFFF8, guard := fun ir => fieldZ ir != 6,
     build := fun ir => (reg8OfCode (fieldZ ir)).bind fun r => some (.op0 (.rlcR r)) },
   { mnemonic := "RLC__HL", pattern := 0xCB06, mask := 0xFFFF, guard := fun _ => true,
     build := fun _ => some (.op0 .rlcIndHl) },
   { mnemonic := "RRC_r", pattern := 0xCB08, mask := 0xFFF8, guard := fun ir => fieldZ ir != 6,
     build := fun ir => (reg8OfCode (fieldZ ir)).bind fun r => some (.op0 (.rrcR r)) },
   { mnemonic := "RRC__HL", pattern := 0xCB0E, mask := 0xFFFF, guard := fun _ => true,
     build := fun _ => some (.op0 .rrcIndHl) },
   { mnemonic := "RL_r", pattern := 0xCB10, mask := 0xFFF8, guard := fun ir => fieldZ ir != 6,
     build := fun ir => (reg8OfCode (fieldZ ir)).bind fun r => some (.op0 (.rlR r)) },
   { mnemonic := "RL__HL", pattern := 0xCB16, mask := 0xFFFF, guard := fun _ => true,
     build := fun _ => some (.op0 .rlIndHl) },
   { mnemonic := "RR_r", pattern := 0xCB18, mask := 0xFFF8, guard := fun ir => fieldZ ir != 6,
     build := fun ir => (reg8OfCode (fieldZ ir)).bind fun r => some (.op0 (.rrR r)) },
   { mnemonic := "RR__HL", pattern := 0xCB1E, mask := 0xFFFF, guard := fun _ => true,
     build := fun _ => some (.op0 .rrIndHl) },
   { mnemonic := "SLA_r", pattern := 0xCB20, mask := 0xFFF8, guard := fun ir => fieldZ ir != 6,
     build := fun ir => (reg8OfCode (fieldZ ir)).bind fun r => some (.op0 (.slaR r)) },
   { mnemonic := "SLA__HL", pattern := 0xCB26, mask := 0xFFFF, guard := fun _ => true,
     build := fun _ => some (.op0 .slaIndHl) },
   { mnemonic := "SRA_r", pattern := 0xCB28, mask := 0xFFF8, guard := fun ir => fieldZ ir != 6,
     build := fun ir => (reg8OfCode (fieldZ ir)).bind fun r => some (.op0 (.sraR r)) },
   { mnemonic := "SRA__HL", pattern := 0xCB2E, mask := 0xFFFF, guard := fun _ => true,
     build := fun _ => some (.op0 .sraIndHl) },
   { mnemonic := "SWAP_r", pattern := 0xCB30, mask := 0xFFF8, guard := fun ir => fieldZ ir != 6,
     build := fun ir => (reg8OfCode (fieldZ ir)).bind fun r => some (.op0 (.swapR r)) },
   { mnemonic := "SWAP__HL", pattern := 0xCB36, mask := 0xFFFF, guard := fun _ => true,
     build := fun _ => some (.op0 .swapIndHl) },
   { mnemonic := "SRL_r", pattern := 0xCB38, mask := 0xFFF8, guard := fun ir => fieldZ ir != 6,
     build := fun ir => (reg8OfCode (fieldZ ir)).bind fun r => some (.op0 (.srlR r)) },
   { mnemonic := "SRL__HL", pattern := 0xCB3E, mask := 0xFFFF, guard := fun _ => true,
     build := fun _ => some (.op0 .srlIndHl) },
   { mnemonic := "BIT_b_r", pattern := 0xCB40, mask := 0xFFC0, guard := fun ir => fieldZ ir != 6,
     build := fun ir => (reg8OfCode (fieldZ ir)).bind fun r => some (.op0 (.bitBR (bitIndexOf ir) r)) },
   { mnemonic := "BIT_b__HL", pattern := 0xCB46, mask := 0xFFC7, guard := fun _ => true,
     build := fun ir => some (.op0 (.bitBIndHl (bitIndexOf ir))) },
   { mnemonic := "RES_b_r", pattern := 0xCB80, mask := 0xFFC0, guard := fun ir => fieldZ ir != 6,
     build := fun ir => (reg8OfCode (fieldZ ir)).bind fun r => some (.op0 (.resBR (bitIndexOf ir) r)) },
   { mnemonic := "RES_b__HL", pattern := 0xCB86, mask := 0xFFC7, guard := fun _ => true,
     build := fun ir => some (.op0 (.resBIndHl (bitIndexOf ir))) } ]

/-- R107: the page of prefix 0xCB, part 2. -/
def cbRows2 : List Row := [
   { mnemonic := "SET_b_r", pattern := 0xCBC0, mask := 0xFFC0, guard := fun ir => fieldZ ir != 6,
     build := fun ir => (reg8OfCode (fieldZ ir)).bind fun r => some (.op0 (.setBR (bitIndexOf ir) r)) },
   { mnemonic := "SET_b__HL", pattern := 0xCBC6, mask := 0xFFC7, guard := fun _ => true,
     build := fun ir => some (.op0 (.setBIndHl (bitIndexOf ir))) } ]

/-- R107: the page of prefix 0xCB. -/
def cbRows : List Row := cbRows1 ++ cbRows2

/-- R108: the page of prefix 0xDD (I = IX). -/
def ddRows : List Row := [
   { mnemonic := "LD_IX_nn", pattern := 0xDD21, mask := 0xFFFF, guard := fun _ => true,
     build := fun _ => some (.op2 (fun nn => .ldIxNn nn)) },
   { mnemonic := "LD_r__IX+d", pattern := 0xDD46, mask := 0xFFC7, guard := fun ir => fieldY ir != 6,
     build := fun ir => (reg8OfCode (fieldY ir)).bind fun r => some (.op1 (fun d => .ldRIndIx r d)) },
   { mnemonic := "LD__IX+d__r", pattern := 0xDD70, mask := 0xFFF8, guard := fun ir => fieldZ ir != 6,
     build := fun ir => (reg8OfCode (fieldZ ir)).bind fun r => some (.op1 (fun d => .ldIndIxR d r)) },
   { mnemonic := "ADD_A__IX+d", pattern := 0xDD86, mask := 0xFFFF, guard := fun _ => true,
     build := fun _ => some (.op1 (fun d => .addAIndIx d)) },
   { mnemonic := "ADC_A__IX+d", pattern := 0xDD8E, mask := 0xFFFF, guard := fun _ => true,
     build := fun _ => some (.op1 (fun d => .adcAIndIx d)) },
   { mnemonic := "SUB__IX+d", pattern := 0xDD96, mask := 0xFFFF, guard := fun _ => true,
     build := fun _ => some (.op1 (fun d => .subIndIx d)) },
   { mnemonic := "SBC_A__IX+d", pattern := 0xDD9E, mask := 0xFFFF, guard := fun _ => true,
     build := fun _ => some (.op1 (fun d => .sbcAIndIx d)) },
   { mnemonic := "AND__IX+d", pattern := 0xDDA6, mask := 0xFFFF, guard := fun _ => true,
     build := fun _ => some (.op1 (fun d => .andIndIx d)) },
   { mnemonic := "XOR__IX+d", pattern := 0xDDAE, mask := 0xFFFF, guard := fun _ => true,
     build := fun _ => some (.op1 (fun d => .xorIndIx d)) },
   { mnemonic := "OR__IX+d", pattern := 0xDDB6, mask := 0xFFFF, guard := fun _ => true,
     build := fun _ => some (.op1 (fun d => .orIndIx d)) },
   { mnemonic := "CP__IX+d", pattern := 0xDDBE, mask := 0xFFFF, guard := fun _ => true,
     build := fun _ => some (.op1 (fun d => .cpIndIx d)) },
   { mnemonic := "INC_IX", pattern := 0xDD23, mask := 0xFFFF, guard := fun _ => true,
     build := fun _ => some (.op0 .incIx) },
   { mnemonic := "DEC_IX", pattern := 0xDD2B, mask := 0xFFFF, guard := fun _ => true,
     build := fun _ => some (.op0 .decIx) },
   { mnemonic := "ADD_IX_pp", pattern := 0xDD09, mask := 0xFFCF, guard := fun _ => true,
     build := fun ir => (ixPairOfCode (fieldP ir)).bind fun pp => some (.op0 (.addIxPp pp)) },
   { mnemonic := "PUSH_IX", pattern := 0xDDE5, mask := 0xFFFF, guard := fun _ => true,
     build := fun _ => some (.op0 .pushIx) },
   { mnemonic := "POP_IX", pattern := 0xDDE1, mask := 0xFFFF, guard := fun _ => true,
     build := fun _ => some (.op0 .popIx) },
   { mnemonic := "LD_SP_IX", pattern := 0xDDF9, mask := 0xFFFF, guard := fun _ => true,
     build := fun _ => some (.op0 .ldSpIx) },
   { mnemonic := "JP__IX", pattern := 0xDDE9, mask := 0xFFFF, guard := fun _ => true,
     build := fun _ => some (.op0 .jpIx) } ]

/-- R108: the page of prefix 0xFD (I = IY). -/
def fdRows : List Row := [
   { mnemonic := "LD_IY_nn", pattern := 0xFD21, mask := 0xFFFF, guard := fun _ => true,
     build := fun _ => some (.op2 (fun nn => .ldIyNn nn)) },
   { mnemonic := "LD_r__IY+d", pattern := 0xFD46, mask := 0xFFC7, guard := fun ir => fieldY ir != 6,
     build := fun ir => (reg8OfCode (fieldY ir)).bind fun r => some (.op1 (fun d => .ldRIndIy r d)) },
   { mnemonic := "LD__IY+d__r", pattern := 0xFD70, mask := 0xFFF8, guard := fun ir => fieldZ ir != 6,
     build := fun ir => (reg8OfCode (fieldZ ir)).bind fun r => some (.op1 (fun d => .ldIndIyR d r)) },
   { mnemonic := "ADD_A__IY+d", pattern := 0xFD86, mask := 0xFFFF, guard := fun _ => true,
     build := fun _ => some (.op1 (fun d => .addAIndIy d)) },
   { mnemonic := "ADC_A__IY+d", pattern := 0xFD8E, mask := 0xFFFF, guard := fun _ => true,
     build := fun _ => some (.op1 (fun d => .adcAIndIy d)) },
   { mnemonic := "SUB__IY+d", pattern := 0xFD96, mask := 0xFFFF, guard := fun _ => true,
     build := fun _ => some (.op1 (fun d => .subIndIy d)) },
   { mnemonic := "SBC_A__IY+d", pattern := 0xFD9E, mask := 0xFFFF, guard := fun _ => true,
     build := fun _ => some (.op1 (fun d => .sbcAIndIy d)) },
   { mnemonic := "AND__IY+d", pattern := 0xFDA6, mask := 0xFFFF, guard := fun _ => true,
     build := fun _ => some (.op1 (fun d => .andIndIy d)) },
   { mnemonic := "XOR__IY+d", pattern := 0xFDAE, mask := 0xFFFF, guard := fun _ => true,
     build := fun _ => some (.op1 (fun d => .xorIndIy d)) },
   { mnemonic := "OR__IY+d", pattern := 0xFDB6, mask := 0xFFFF, guard := fun _ => true,
     build := fun _ => some (.op1 (fun d => .orIndIy d)) },
   { mnemonic := "CP__IY+d", pattern := 0xFDBE, mask := 0xFFFF, guard := fun _ => true,
     build := fun _ => some (.op1 (fun d => .cpIndIy d)) },
   { mnemonic := "INC_IY", pattern := 0xFD23, mask := 0xFFFF, guard := fun _ => true,
     build := fun _ => some (.op0 .incIy) },
   { mnemonic := "DEC_IY", pattern := 0xFD2B, mask := 0xFFFF, guard := fun _ => true,
     build := fun _ => some (.op0 .decIy) },
   { mnemonic := "ADD_IY_pp", pattern := 0xFD09, mask := 0xFFCF, guard := fun _ => true,
     build := fun ir => (iyPairOfCode (fieldP ir)).bind fun pp => some (.op0 (.addIyPp pp)) },
   { mnemonic := "PUSH_IY", pattern := 0xFDE5, mask := 0xFFFF, guard := fun _ => true,
     build := fun _ => some (.op0 .pushIy) },
   { mnemonic := "POP_IY", pattern := 0xFDE1, mask := 0xFFFF, guard := fun _ => true,
     build := fun _ => some (.op0 .popIy) },
   { mnemonic := "LD_SP_IY", pattern := 0xFDF9, mask := 0xFFFF, guard := fun _ => true,
     build := fun _ => some (.op0 .ldSpIy) },
   { mnemonic := "JP__IY", pattern := 0xFDE9, mask := 0xFFFF, guard := fun _ => true,
     build := fun _ => some (.op0 .jpIy) } ]

/-- R109: the page of prefix 0xFC, the privilege extension. -/
def fcRows : List Row := [
   { mnemonic := "LDU_r__HL", pattern := 0xFC46, mask := 0xFFC7, guard := fun ir => fieldY ir != 6,
     build := fun ir => (reg8OfCode (fieldY ir)).bind fun r => some (.op0 (.lduRIndHl r)) },
   { mnemonic := "LDU_A__BC", pattern := 0xFC0A, mask := 0xFFFF, guard := fun _ => true,
     build := fun _ => some (.op0 .lduAIndBc) },
   { mnemonic := "LDU_A__DE", pattern := 0xFC1A, mask := 0xFFFF, guard := fun _ => true,
     build := fun _ => some (.op0 .lduAIndDe) },
   { mnemonic := "LDU_A__HL+", pattern := 0xFC2A, mask := 0xFFFF, guard := fun _ => true,
     build := fun _ => some (.op0 .lduAIndHlInc) },
   { mnemonic := "LDU_A__HL-", pattern := 0xFC3A, mask := 0xFFFF, guard := fun _ => true,
     build := fun _ => some (.op0 .lduAIndHlDec) },
   { mnemonic := "JPU_nn", pattern := 0xFCC3, mask := 0xFFFF, guard := fun _ => true,
     build := fun _ => some (.op2 (fun nn => .jpuNn nn)) } ]

/-- Membership in `PREFIX_BYTES` (R9). -/
def isPrefixByte (x : Byte) : Bool := Config.prefixBytes.contains x

/-- The rows of one page: PIR = 0 is the primary page (R105 to R109). -/
def pageRows (pir : Byte) : List Row :=
  match pir.toNat with
  | 0x00 => primaryRows
  | 0xCB => cbRows
  | 0xDD => ddRows
  | 0xFD => fdRows
  | 0xFC => fcRows
  | _ => []

/-- What looking up (PIR, IR) gives (spec/40_pipeline.md R133). -/
inductive Lookup where
  /-- No handler: a no-op cycle (R110). -/
  | unmapped
  /-- A register translation of the row's Decode failed (R37, R133); no row of the table does this. -/
  | badRegister
  /-- The row's Decode. -/
  | found (t : Template)

/-- `OPTABLE` (R10): the entry (0, p) with p a prefix byte is never looked up by fetch and is unmapped. -/
def lookup (pir ir : Byte) : Lookup :=
  match (pageRows pir).find? (fun row => row.accepts pir ir) with
  | none => .unmapped
  | some row =>
    match row.build ir with
    | none => .badRegister
    | some t => .found t

/-- Why bytes are not an instruction. -/
inductive Reject where
  /-- The bytes end inside the instruction. -/
  | truncated
  /-- The opcode has no entry in the table (R110): the machine runs it as a no-op cycle. -/
  | unmapped (pir ir : Byte)
  /-- A register code outside its table (R37). -/
  | badRegister (pir ir : Byte)
  deriving DecidableEq, Repr

/-- Fill a template from the bytes after the opcode. -/
def Template.fill : Template → List Byte → Except Reject (Instr × List Byte)
  | .op0 i, rest => .ok (i, rest)
  | .op1 f, x :: rest => .ok (f x, rest)
  | .op2 f, x :: y :: rest => .ok (f (join y x), rest)
  | .op1 _, [] => .error .truncated
  | .op2 _, [] => .error .truncated
  | .op2 _, [_] => .error .truncated

/-- Decode after the opcode bytes: (PIR, IR) and the bytes that follow (R102). -/
def decodeOpcode (pir ir : Byte) (rest : List Byte) : Except Reject (Instr × List Byte) :=
  match lookup pir ir with
  | .unmapped => .error (.unmapped pir ir)
  | .badRegister => .error (.badRegister pir ir)
  | .found t => t.fill rest

/-- The decoder: the bytes from the lowest address on, to an instruction and the bytes after it (R100,
R102, R112). Total; it rejects by name. -/
def decode : List Byte → Except Reject (Instr × List Byte)
  | [] => .error .truncated
  | b0 :: bytes =>
    if isPrefixByte b0 then
      match bytes with
      | [] => .error .truncated
      | b1 :: rest => decodeOpcode b0 b1 rest
    else decodeOpcode 0 b0 bytes

/-- The user-privileged load (spec/40_pipeline.md R135). Every other identity is not `LDU`. -/
def Instr.isLdu : Instr → Bool
  | .lduRIndHl _ | .lduAIndBc | .lduAIndDe | .lduAIndHlInc | .lduAIndHlDec => true
  | .nop | .ldDdNn _ _ | .ldIndBcA | .ldIndDeA | .ldIndHlIncA | .ldIndHlDecA | .incSs _ | .decSs _
  | .incR _ | .incIndHl | .decR _ | .decIndHl | .ldRN _ _ | .ldIndHlN _ | .rlca | .rrca | .rla | .rra
  | .ldIndNnSp _ | .addHlSs _ | .ldAIndBc | .ldAIndDe | .ldAIndHlInc | .ldAIndHlDec | .stop | .jr _
  | .jrCc _ _ | .daa | .cpl | .scf | .ccf | .ldRR _ _ | .ldRIndHl _ | .ldIndHlR _ | .halt | .addAR _
  | .addAIndHl | .addAN _ | .adcAR _ | .adcAIndHl | .adcAN _ | .subR _ | .subIndHl | .subN _ | .sbcAR _
  | .sbcAIndHl | .sbcAN _ | .andR _ | .andIndHl | .andN _ | .xorR _ | .xorIndHl | .xorN _ | .orR _
  | .orIndHl | .orN _ | .cpR _ | .cpIndHl | .cpN _ | .retCc _ | .popQq _ | .jpCc _ _ | .jp _
  | .callCc _ _ | .pushQq _ | .rst _ | .ret | .call _ | .reti | .ldhIndNA _ | .ldIndCA | .addSpE _
  | .jpHl | .ldIndNnA _ | .ldhAIndN _ | .ldAIndC | .di | .ldHlSpE _ | .ldSpHl | .ldAIndNn _ | .ei
  | .rlcR _ | .rlcIndHl | .rrcR _ | .rrcIndHl | .rlR _ | .rlIndHl | .rrR _ | .rrIndHl | .slaR _
  | .slaIndHl | .sraR _ | .sraIndHl | .swapR _ | .swapIndHl | .srlR _ | .srlIndHl | .bitBR _ _
  | .bitBIndHl _ | .resBR _ _ | .resBIndHl _ | .setBR _ _ | .setBIndHl _ | .ldIxNn _ | .ldRIndIx _ _
  | .ldIndIxR _ _ | .addAIndIx _ | .adcAIndIx _ | .subIndIx _ | .sbcAIndIx _ | .andIndIx _
  | .xorIndIx _ | .orIndIx _ | .cpIndIx _ | .incIx | .decIx | .addIxPp _ | .pushIx | .popIx | .ldSpIx
  | .jpIx | .ldIyNn _ | .ldRIndIy _ _ | .ldIndIyR _ _ | .addAIndIy _ | .adcAIndIy _ | .subIndIy _
  | .sbcAIndIy _ | .andIndIy _ | .xorIndIy _ | .orIndIy _ | .cpIndIy _ | .incIy | .decIy | .addIyPp _
  | .pushIy | .popIy | .ldSpIy | .jpIy | .jpuNn _ => false

/-- `sig.umsor` is computed from the opcode and mode alone (R135): no `LDU` has operand bytes. -/
def Template.isLdu : Template → Bool
  | .op0 i => i.isLdu
  | .op1 _ => false
  | .op2 _ => false

/-- The bytes, lowest address first, of an instruction whose bits the opcode table numbers as w: the
table's key is `(PIR << 8) | IR` in bits 15 to 0 with PIR = 0 for an unprefixed opcode (R116), and
operand bytes count on from bit 16. Where bits 15 to 8 are no prefix byte the first byte is bits 7
to 0 and the operand bytes follow it. Log 12. -/
def tableBytes (nbits w : Nat) : List Byte :=
  let v : Nat := w % 2 ^ nbits
  let byte0 : Byte := BitVec.ofNat 8 v
  let byte1 : Byte := BitVec.ofNat 8 (v / 0x100)
  let byte2 : Byte := BitVec.ofNat 8 (v / 0x10000)
  let byte3 : Byte := BitVec.ofNat 8 (v / 0x1000000)
  if isPrefixByte byte1 then [byte1, byte0, byte2, byte3] else [byte0, byte1, byte2, byte3]

/-- The instruction the decoder reads from a table word. -/
def decodeTableWord (nbits w : Nat) : Option Instr :=
  match decode (tableBytes nbits w) with
  | .ok (i, _) => some i
  | .error _ => none


/-- The bytes of a well-formed instruction, lowest address first (R100, R101, R104), written from the
pages of R105 to R109; none where a register operand has no code (R37, the reverse translations). -/
def encode : Instr → Option (List Byte)
  | .nop => some [0x00]
  | .ldDdNn dd nn => dd.pairCode.bind fun ddc => some [0x01 ||| (ddc <<< 4), lo nn, hi nn]
  | .ldIndBcA => some [0x02]
  | .ldIndDeA => some [0x12]
  | .ldIndHlIncA => some [0x22]
  | .ldIndHlDecA => some [0x32]
  | .incSs ss => ss.pairCode.bind fun ssc => some [0x03 ||| (ssc <<< 4)]
  | .decSs ss => ss.pairCode.bind fun ssc => some [0x0B ||| (ssc <<< 4)]
  | .incR r => r.code.bind fun rc => some [0x04 ||| (rc <<< 3)]
  | .incIndHl => some [0x34]
  | .decR r => r.code.bind fun rc => some [0x05 ||| (rc <<< 3)]
  | .decIndHl => some [0x35]
  | .ldRN r n => r.code.bind fun rc => some [0x06 ||| (rc <<< 3), n]
  | .ldIndHlN n => some [0x36, n]
  | .rlca => some [0x07]
  | .rrca => some [0x0F]
  | .rla => some [0x17]
  | .rra => some [0x1F]
  | .ldIndNnSp nn => some [0x08, lo nn, hi nn]
  | .addHlSs ss => ss.pairCode.bind fun ssc => some [0x09 ||| (ssc <<< 4)]
  | .ldAIndBc => some [0x0A]
  | .ldAIndDe => some [0x1A]
  | .ldAIndHlInc => some [0x2A]
  | .ldAIndHlDec => some [0x3A]
  | .stop => some [0x10]
  | .jr e => some [0x18, e]
  | .jrCc cc e => some [0x20 ||| (cc.code <<< 3), e]
  | .daa => some [0x27]
  | .cpl => some [0x2F]
  | .scf => some [0x37]
  | .ccf => some [0x3F]
  | .ldRR r r' => r.code.bind fun rc => r'.code.bind fun rc' => some [0x40 ||| (rc <<< 3) ||| rc']
  | .ldRIndHl r => r.code.bind fun rc => some [0x46 ||| (rc <<< 3)]
  | .ldIndHlR r => r.code.bind fun rc => some [0x70 ||| rc]
  | .halt => some [0x76]
  | .addAR r => r.code.bind fun rc => some [0x80 ||| rc]
  | .addAIndHl => some [0x86]
  | .addAN n => some [0xC6, n]
  | .adcAR r => r.code.bind fun rc => some [0x88 ||| rc]
  | .adcAIndHl => some [0x8E]
  | .adcAN n => some [0xCE, n]
  | .subR r => r.code.bind fun rc => some [0x90 ||| rc]
  | .subIndHl => some [0x96]
  | .subN n => some [0xD6, n]
  | .sbcAR r => r.code.bind fun rc => some [0x98 ||| rc]
  | .sbcAIndHl => some [0x9E]
  | .sbcAN n => some [0xDE, n]
  | .andR r => r.code.bind fun rc => some [0xA0 ||| rc]
  | .andIndHl => some [0xA6]
  | .andN n => some [0xE6, n]
  | .xorR r => r.code.bind fun rc => some [0xA8 ||| rc]
  | .xorIndHl => some [0xAE]
  | .xorN n => some [0xEE, n]
  | .orR r => r.code.bind fun rc => some [0xB0 ||| rc]
  | .orIndHl => some [0xB6]
  | .orN n => some [0xF6, n]
  | .cpR r => r.code.bind fun rc => some [0xB8 ||| rc]
  | .cpIndHl => some [0xBE]
  | .cpN n => some [0xFE, n]
  | .retCc cc => some [0xC0 ||| (cc.code <<< 3)]
  | .popQq qq => qq.stackCode.bind fun qqc => some [0xC1 ||| (qqc <<< 4)]
  | .jpCc cc nn => some [0xC2 ||| (cc.code <<< 3), lo nn, hi nn]
  | .jp nn => some [0xC3, lo nn, hi nn]
  | .callCc cc nn => some [0xC4 ||| (cc.code <<< 3), lo nn, hi nn]
  | .pushQq qq => qq.stackCode.bind fun qqc => some [0xC5 ||| (qqc <<< 4)]
  | .rst t => some [0xC7 ||| ((t.setWidth 8) <<< 3)]
  | .ret => some [0xC9]
  | .call nn => some [0xCD, lo nn, hi nn]
  | .reti => some [0xD9]
  | .ldhIndNA n => some [0xE0, n]
  | .ldIndCA => some [0xE2]
  | .addSpE e => some [0xE8, e]
  | .jpHl => some [0xE9]
  | .ldIndNnA nn => some [0xEA, lo nn, hi nn]
  | .ldhAIndN n => some [0xF0, n]
  | .ldAIndC => some [0xF2]
  | .di => some [0xF3]
  | .ldHlSpE e => some [0xF8, e]
  | .ldSpHl => some [0xF9]
  | .ldAIndNn nn => some [0xFA, lo nn, hi nn]
  | .ei => some [0xFB]
  | .rlcR r => r.code.bind fun rc => some [0xCB, 0x00 ||| rc]
  | .rlcIndHl => some [0xCB, 0x06]
  | .rrcR r => r.code.bind fun rc => some [0xCB, 0x08 ||| rc]
  | .rrcIndHl => some [0xCB, 0x0E]
  | .rlR r => r.code.bind fun rc => some [0xCB, 0x10 ||| rc]
  | .rlIndHl => some [0xCB, 0x16]
  | .rrR r => r.code.bind fun rc => some [0xCB, 0x18 ||| rc]
  | .rrIndHl => some [0xCB, 0x1E]
  | .slaR r => r.code.bind fun rc => some [0xCB, 0x20 ||| rc]
  | .slaIndHl => some [0xCB, 0x26]
  | .sraR r => r.code.bind fun rc => some [0xCB, 0x28 ||| rc]
  | .sraIndHl => some [0xCB, 0x2E]
  | .swapR r => r.code.bind fun rc => some [0xCB, 0x30 ||| rc]
  | .swapIndHl => some [0xCB, 0x36]
  | .srlR r => r.code.bind fun rc => some [0xCB, 0x38 ||| rc]
  | .srlIndHl => some [0xCB, 0x3E]
  | .bitBR b r => r.code.bind fun rc => some [0xCB, 0x40 ||| ((b.setWidth 8) <<< 3) ||| rc]
  | .bitBIndHl b => some [0xCB, 0x46 ||| ((b.setWidth 8) <<< 3)]
  | .resBR b r => r.code.bind fun rc => some [0xCB, 0x80 ||| ((b.setWidth 8) <<< 3) ||| rc]
  | .resBIndHl b => some [0xCB, 0x86 ||| ((b.setWidth 8) <<< 3)]
  | .setBR b r => r.code.bind fun rc => some [0xCB, 0xC0 ||| ((b.setWidth 8) <<< 3) ||| rc]
  | .setBIndHl b => some [0xCB, 0xC6 ||| ((b.setWidth 8) <<< 3)]
  | .ldIxNn nn => some [0xDD, 0x21, lo nn, hi nn]
  | .ldRIndIx r d => r.code.bind fun rc => some [0xDD, 0x46 ||| (rc <<< 3), d]
  | .ldIndIxR d r => r.code.bind fun rc => some [0xDD, 0x70 ||| rc, d]
  | .addAIndIx d => some [0xDD, 0x86, d]
  | .adcAIndIx d => some [0xDD, 0x8E, d]
  | .subIndIx d => some [0xDD, 0x96, d]
  | .sbcAIndIx d => some [0xDD, 0x9E, d]
  | .andIndIx d => some [0xDD, 0xA6, d]
  | .xorIndIx d => some [0xDD, 0xAE, d]
  | .orIndIx d => some [0xDD, 0xB6, d]
  | .cpIndIx d => some [0xDD, 0xBE, d]
  | .incIx => some [0xDD, 0x23]
  | .decIx => some [0xDD, 0x2B]
  | .addIxPp pp => pp.ixCode.bind fun ppc => some [0xDD, 0x09 ||| (ppc <<< 4)]
  | .pushIx => some [0xDD, 0xE5]
  | .popIx => some [0xDD, 0xE1]
  | .ldSpIx => some [0xDD, 0xF9]
  | .jpIx => some [0xDD, 0xE9]
  | .ldIyNn nn => some [0xFD, 0x21, lo nn, hi nn]
  | .ldRIndIy r d => r.code.bind fun rc => some [0xFD, 0x46 ||| (rc <<< 3), d]
  | .ldIndIyR d r => r.code.bind fun rc => some [0xFD, 0x70 ||| rc, d]
  | .addAIndIy d => some [0xFD, 0x86, d]
  | .adcAIndIy d => some [0xFD, 0x8E, d]
  | .subIndIy d => some [0xFD, 0x96, d]
  | .sbcAIndIy d => some [0xFD, 0x9E, d]
  | .andIndIy d => some [0xFD, 0xA6, d]
  | .xorIndIy d => some [0xFD, 0xAE, d]
  | .orIndIy d => some [0xFD, 0xB6, d]
  | .cpIndIy d => some [0xFD, 0xBE, d]
  | .incIy => some [0xFD, 0x23]
  | .decIy => some [0xFD, 0x2B]
  | .addIyPp pp => pp.iyCode.bind fun ppc => some [0xFD, 0x09 ||| (ppc <<< 4)]
  | .pushIy => some [0xFD, 0xE5]
  | .popIy => some [0xFD, 0xE1]
  | .ldSpIy => some [0xFD, 0xF9]
  | .jpIy => some [0xFD, 0xE9]
  | .lduRIndHl r => r.code.bind fun rc => some [0xFC, 0x46 ||| (rc <<< 3)]
  | .lduAIndBc => some [0xFC, 0x0A]
  | .lduAIndDe => some [0xFC, 0x1A]
  | .lduAIndHlInc => some [0xFC, 0x2A]
  | .lduAIndHlDec => some [0xFC, 0x3A]
  | .jpuNn nn => some [0xFC, 0xC3, lo nn, hi nn]

end Sys2Proof
end

