-- ==== Sys2Proof/Machine/State.lean ====
section
/-! DEFINITION. The state of the GBX core as plain data (spec/10_state.md, spec/20_memory.md R60 to R68,
spec/60_exceptions.md R440), the state after reset (R51), and the reasons a step can stop
(spec/60_exceptions.md R430). Accessors are in Machine/Ops.lean. -/

namespace Sys2Proof.Machine

/-- The four flags of F (R30): Z bit 7, N bit 6, H bit 5, CY bit 4. -/
inductive Flag where
  | z | n | h | cy
  deriving DecidableEq, Repr

/-- The privilege tag of a registration (spec/20_memory.md R61). -/
inductive Privilege where
  | system | user | both
  deriving DecidableEq, Repr

/-- The fifteen storage cells of the RegisterBank (R20). The pairs HL, BC, DE, AF are views (R24). -/
structure RegisterBank where
  b : Byte
  c : Byte
  d : Byte
  e : Byte
  h : Byte
  l : Byte
  a : Byte
  f : Byte
  ir : Byte
  pir : Byte
  r : Byte
  pc : Word
  sp : Word
  ix : Word
  iy : Word
  deriving DecidableEq, Repr

/-- The seven signals of the ALU (R44). -/
structure Signals where
  cis : Bool
  halt : Bool
  stop : Bool
  ime : Bool
  aborted : Bool
  umr : Bool
  umsor : Bool
  deriving DecidableEq, Repr

/-- The bytes of one resource: (local offset, byte) pairs in the canonical form of `Memory.wf`. -/
abbrev Memory := List Host.Cell

/-- A backing resource (spec/20_memory.md R68): a store of `size` bytes by local offset. -/
structure Backing where
  size : Nat
  bytes : Memory
  deriving DecidableEq, Repr

/-- A resource registration (R61, R63, R67): the handle that names it, the place of the backing resource in
`State.backings`, the inclusive range, the tag. Two registrations may name one backing resource. -/
structure Resource where
  handle : Nat
  backing : Nat
  first : Word
  last : Word
  tag : Privilege
  deriving DecidableEq, Repr

/-- A mapped-register registration (R61, R64): the place of the device in `State.devices`, its one
address, the tag. -/
structure MappedRegister where
  device : Nat
  address : Word
  tag : Privilege
  deriving DecidableEq, Repr

/-- Which outer loop drives the core: the reference one (spec/60_exceptions.md R441), or one that
ignores the requests (spec/70_reset_and_hazards.md R487). The model's own field. Log 7. -/
inductive OuterLoop where
  | reference | passive
  deriving DecidableEq, Repr

/-- The seven queries (spec/40_pipeline.md R172). -/
inductive Query where
  | clearInterruptStatusSignal | haltSignal | stopSignal | interruptMasterEnable
  | isExecutionAborted | userModeRequested | userModeSourceOperandRequested
  deriving DecidableEq, Repr

/-- The object a registration call brings (spec/20_memory.md R61, R63, R64): one the machine has not seen, or
the one at that place of its list, which an earlier call brought. Log 15. -/
inductive ObjectRef (α : Type) where
  | fresh (object : α)
  | known (place : Nat)
  deriving DecidableEq, Repr

/-- A move of ENV between two cycles (spec/60_exceptions.md R440). -/
inductive HostMove where
  /-- One of the seven queries (R172). -/
  | query (q : Query)
  /-- `SecurityLevel()` (spec/20_memory.md R66). -/
  | securityLevel
  /-- `SetSecurityLevel(level)` (R66). -/
  | setSecurityLevel (level : SecurityLevel)
  /-- `ReadRegister(X)` (spec/60_exceptions.md R450). -/
  | readRegister (x : Register)
  /-- `WriteRegister(X, v)` (R450). -/
  | writeRegister (x : Register) (v : Word)
  /-- `ReadRegister` of the register a wire byte names (R450, D34). -/
  | readWireRegister (x : Byte)
  /-- `WriteRegister` of the register a wire byte names (R450, D34). -/
  | writeWireRegister (x : Byte) (v : Word)
  /-- `Read(a, byte)` (spec/20_memory.md R70). -/
  | readByte (a : Word)
  /-- `Read(a, word)` (R81). -/
  | readWord (a : Word)
  /-- `Write(v, a)` of a byte (R73). -/
  | writeByte (a : Word) (v : Byte)
  /-- `Write(v, a)` of a word (R81). -/
  | writeWord (a : Word) (v : Word)
  /-- `RegisterMemoryResource(resource, AddressRange, PrivilegeMode)` (R63, R67). -/
  | registerResource (object : ObjectRef Backing) (first last : Word) (tag : Privilege)
  /-- `UnregisterMemoryResource(handle, tag)` (R63). -/
  | unregisterResource (handle : Nat) (tag : Privilege)
  /-- `RegisterMemoryMappedRegister(register, address, PrivilegeMode)` (R64). -/
  | registerMapped (object : ObjectRef Device) (address : Word) (tag : Privilege)
  /-- `UnregisterMemoryMappedRegister(address, tag)` (R64). -/
  | unregisterMapped (address : Word) (tag : Privilege)
  /-- `Load(buffer, size, destAddress, optionalBankOffset)`; size is the buffer's length (R82). -/
  | load (buffer : List Byte) (dest : Word) (bankOffset : Option Nat)
  /-- `SwitchBank(bank, slot)` (R83). -/
  | switchBank (bank slot : Nat)
  deriving DecidableEq, Repr

/-- The whole machine. `draws`, `outerLoop` and `hostMoves` are the model's own (log 7, log 10). -/
structure State where
  regs : RegisterBank
  level : SecurityLevel
  backings : List Backing
  resources : List Resource
  mapped : List MappedRegister
  devices : List Device
  nextHandle : Nat
  sig : Signals
  draws : Nat
  outerLoop : OuterLoop
  hostMoves : List HostMove
  deriving DecidableEq, Repr

/-- The faults (spec/60_exceptions.md R430). Each carries the state the raise left behind: nothing is
rolled back (R433), and the kind and payload exist only in the value returned to the caller. A fault is
a stuck state (R433). Log 6. -/
inductive Fault where
  /-- Raised by an access to a register of the wrong width and by a register-code translation outside
  its table (R37, R21), and, DESIGN CHOICE (log 24), by a step or an Execute that needs a register field or a
  source value that the DecodedInstruction does not have. Safe: the spec raises it there, and where it is
  silent the model stops; no instruction of the table does either. -/
  | registerBankError (left : State)
  /-- Raised by any read or write of an address the scope used does not map (spec/20_memory.md R75).
  Safe: the spec raises it there. -/
  | memoryUnmapped (address : Word) (left : State)
  /-- Raised by a failing host call between cycles, which changes nothing (R432). Safe: the spec raises
  it there; never by a cycle. -/
  | memoryControllerError (left : State)
  /-- Raised by a mode without a descriptor (spec/40_pipeline.md R149). Safe: the spec raises it there;
  the descriptor table is total, so no cycle does. -/
  | aluError (left : State)
  deriving DecidableEq, Repr

/-- The refusals. -/
inductive Refusal where
  /-- Raised by exec for an instruction that has no meaning yet. Safe: nothing is claimed of it. -/
  | notModelled (mnemonic : String)
  /-- Raised by a step whose host calls `SwitchBank` (spec/20_memory.md R83: "refuses the operation").
  Safe: the spec makes no claim about such a run. -/
  | switchBank
  /-- Raised by a step whose host calls `Load` with a bank offset (R82, R83). Safe: as `switchBank`. -/
  | loadWithBankOffset
  deriving DecidableEq, Repr

/-- The RegisterBank after reset (R51): PC at `RESET_PC`; every other cell zero, DESIGN CHOICE (log 1). -/
def RegisterBank.reset : RegisterBank :=
  { b := 0, c := 0, d := 0, e := 0, h := 0, l := 0, a := 0, f := 0, ir := 0, pir := 0, r := 0,
    pc := Config.resetPc, sp := 0, ix := 0, iy := 0 }

/-- All signals false (R51). -/
def Signals.reset : Signals :=
  { cis := false, halt := false, stop := false, ime := false, aborted := false, umr := false,
    umsor := false }

/-- The backing resource of `MEMMAP` after reset: 65,536 bytes, with nothing listed. Log 3, log 4. -/
def resetBackings : List Backing := [{ size := 0x10000, bytes := [] }]

/-- `MEMMAP` after reset: that resource over the whole address space, visible in both scopes; no mapped
register. The spec leaves it OPEN (D20): DESIGN CHOICE (log 3). -/
def resetMemmap : List Resource :=
  [{ handle := 0, backing := 0, first := 0x0000, last := 0xFFFF, tag := .both }]

/-- The machine before its first cycle (spec/10_state.md R51, spec/70_reset_and_hazards.md R470, R471). -/
def State.reset : State :=
  { regs := RegisterBank.reset, level := .system, backings := resetBackings, resources := resetMemmap,
    mapped := [], devices := [], nextHandle := 1, sig := Signals.reset, draws := 0,
    outerLoop := .reference, hostMoves := [] }

end Sys2Proof.Machine
end

