-- ==== Sys2Proof/Machine/Ops.lean ====
section
/-! DEFINITION. The named operations over registers, signals and memory: the RegisterBank
(spec/10_state.md R20 to R31), raising a fault (spec/60_exceptions.md R433), the MemoryController's
resolution of an access (spec/20_memory.md R62, R70 to R75) with its devices (R72, R92), word access
(R81) and bulk load (R82). -/

namespace Sys2Proof.Machine

/-! ### State updates -/

/-- Replace the RegisterBank. -/
def State.withRegs (s : State) (rb : RegisterBank) : State := { s with regs := rb }

/-- Replace the signals. -/
def State.withSig (s : State) (g : Signals) : State := { s with sig := g }

/-- `SetSecurityLevel(level)` (spec/20_memory.md R66). -/
def State.withLevel (s : State) (level : SecurityLevel) : State := { s with level := level }

/-- Replace the backing resources. -/
def State.withBackings (s : State) (ms : List Backing) : State := { s with backings := ms }

/-- Replace the resource registrations. -/
def State.withResources (s : State) (rs : List Resource) : State := { s with resources := rs }

/-- Replace the mapped-register registrations. -/
def State.withMapped (s : State) (gs : List MappedRegister) : State := { s with mapped := gs }

/-- Replace the devices' states. -/
def State.withDevices (s : State) (ds : List Device) : State := { s with devices := ds }

/-- One more free value has been drawn. Log 10. -/
def State.drawn (s : State) : State := { s with draws := s.draws + 1 }

/-- Replace the moves the outer loop has lined up. -/
def State.withHostMoves (s : State) (ms : List HostMove) : State := { s with hostMoves := ms }

/-! ### RegisterBank -/

/-- `Read(Register)` of an 8-bit name (R21). -/
def RegisterBank.get8 (rb : RegisterBank) : Reg8 → Byte
  | .b => rb.b
  | .c => rb.c
  | .d => rb.d
  | .e => rb.e
  | .h => rb.h
  | .l => rb.l
  | .a => rb.a
  | .f => rb.f
  | .ir => rb.ir
  | .pir => rb.pir
  | .regR => rb.r

/-- `Write(Register, u8)` of an 8-bit name (R21). -/
def RegisterBank.set8 (rb : RegisterBank) (x : Reg8) (v : Byte) : RegisterBank :=
  match x with
  | .b => { rb with b := v }
  | .c => { rb with c := v }
  | .d => { rb with d := v }
  | .e => { rb with e := v }
  | .h => { rb with h := v }
  | .l => { rb with l := v }
  | .a => { rb with a := v }
  | .f => { rb with f := v }
  | .ir => { rb with ir := v }
  | .pir => { rb with pir := v }
  | .regR => { rb with r := v }

/-- `ReadPair(Register)` of a 16-bit name; a pair's first letter is its high half (R24). -/
def RegisterBank.get16 (rb : RegisterBank) : Reg16 → Word
  | .pc => rb.pc
  | .sp => rb.sp
  | .ix => rb.ix
  | .iy => rb.iy
  | .hl => join rb.h rb.l
  | .bc => join rb.b rb.c
  | .de => join rb.d rb.e
  | .af => join rb.a rb.f

/-- `WritePair(Register, u16)` of a 16-bit name; a pair's two halves change as one update (R24). -/
def RegisterBank.set16 (rb : RegisterBank) (x : Reg16) (v : Word) : RegisterBank :=
  match x with
  | .pc => { rb with pc := v }
  | .sp => { rb with sp := v }
  | .ix => { rb with ix := v }
  | .iy => { rb with iy := v }
  | .hl => { rb with h := hi v, l := lo v }
  | .bc => { rb with b := hi v, c := lo v }
  | .de => { rb with d := hi v, e := lo v }
  | .af => { rb with a := hi v, f := lo v }

/-- `Read(Register)` by any name: none is the RegisterBank error of a 16-bit name (R21). -/
def RegisterBank.read (rb : RegisterBank) : Register → Option Byte
  | .r8 x => some (rb.get8 x)
  | .r16 _ => none

/-- `Write(Register, u8)` by any name (R21). -/
def RegisterBank.write (rb : RegisterBank) (x : Register) (v : Byte) : Option RegisterBank :=
  match x with
  | .r8 x => some (rb.set8 x v)
  | .r16 _ => none

/-- `ReadPair(Register)` by any name: none is the RegisterBank error of an 8-bit name (R21). -/
def RegisterBank.readPair (rb : RegisterBank) : Register → Option Word
  | .r8 _ => none
  | .r16 x => some (rb.get16 x)

/-- `WritePair(Register, u16)` by any name (R21). -/
def RegisterBank.writePair (rb : RegisterBank) (x : Register) (v : Word) : Option RegisterBank :=
  match x with
  | .r8 _ => none
  | .r16 x => some (rb.set16 x v)

/-- `IsPair(Register)` (R22). -/
def isPair : Register → Bool
  | .r8 _ => false
  | .r16 _ => true

/-- The bit of F a flag has (R30). -/
def Flag.bit : Flag → Nat
  | .z => 7
  | .n => 6
  | .h => 5
  | .cy => 4

/-- One bit of a byte written, the other seven kept. -/
def writeBit (x : Byte) (k : Nat) (v : Bool) : Byte :=
  if v then x ||| ((1 : Byte) <<< k) else x &&& ~~~((1 : Byte) <<< k)

/-- Flag `Read(f)` (R31). -/
def RegisterBank.flag (rb : RegisterBank) (f : Flag) : Bool := rb.f.getLsbD f.bit

/-- Flag `Write(f, b)` (R31): only the bit of f changes. -/
def RegisterBank.writeFlag (rb : RegisterBank) (f : Flag) (v : Bool) : RegisterBank :=
  { rb with f := writeBit rb.f f.bit v }

/-- Flag `Set(f)` (R31). -/
def RegisterBank.setFlag (rb : RegisterBank) (f : Flag) : RegisterBank := rb.writeFlag f true

/-- Flag `Clear(f)` (R31). -/
def RegisterBank.clearFlag (rb : RegisterBank) (f : Flag) : RegisterBank := rb.writeFlag f false

/-! ### Signals -/

/-- The start of step 4: the five transient signals are false; `ime` and `umsor` stay (R160). -/
def Signals.resetTransient (g : Signals) : Signals :=
  { g with cis := false, halt := false, stop := false, aborted := false, umr := false }

/-- `sig.umsor` written by the decode step (R47, R133). -/
def State.withUmsor (s : State) (v : Bool) : State := s.withSig { s.sig with umsor := v }

/-! ### Taking a fault -/

/-- `raise Fault(kind)`: the cycle ends here; the state written so far is what is left (R433). -/
def raise {α : Type} (kind : State → Fault) (s : State) : Except Fault α := .error (kind s)

/-! ### Backing resources -/

/-- What a resource byte reads as that nothing has loaded or written. The spec leaves it unspecified
(spec/10_state.md R51): DESIGN CHOICE (log 4). -/
def Memory.unlisted : Byte := 0x00

/-- The byte at a local offset (spec/20_memory.md R68). -/
def Memory.read : Memory → Nat → Byte
  | [], _ => Memory.unlisted
  | (a, v) :: m, k => if a = k then v else Memory.read m k

/-- A cell put at its place among rising offsets. -/
def Memory.insert : Memory → Nat → Byte → Memory
  | [], k, v => [(k, v)]
  | (a, w) :: m, k, v => if k < a then (k, v) :: (a, w) :: m else (a, w) :: Memory.insert m k v

/-- The byte at a local offset replaced (R68), keeping the canonical form: a byte that reads as an
unlisted one is not listed. -/
def Memory.write (m : Memory) (k : Nat) (v : Byte) : Memory :=
  let others := m.filter (fun cell => cell.1 != k)
  if v = Memory.unlisted then others else Memory.insert others k v

/-- The canonical form: offsets strictly rising, no entry equal to what an unlisted one reads as. -/
abbrev Memory.wf (m : Memory) : Prop :=
  m.Pairwise (fun x y => x.1 < y.1) ∧ ∀ cell ∈ m, cell.2 ≠ Memory.unlisted

/-- Consecutive bytes written from an offset on (R82). -/
def Memory.load : Memory → Nat → List Byte → Memory
  | m, _, [] => m
  | m, k, v :: vs => Memory.load (Memory.write m k v) (k + 1) vs

/-- The canonical memory that holds the given cells below `size`. -/
def Memory.ofCells (size : Nat) : List Host.Cell → Memory
  | [] => []
  | (k, v) :: cells =>
    if k < size then Memory.write (Memory.ofCells size cells) k v else Memory.ofCells size cells

/-- The resource with its bytes in canonical form: a cell outside `Size()` is dropped. Log 15. -/
def Backing.canonical (m : Backing) : Backing := { m with bytes := Memory.ofCells m.size m.bytes }

/-- `m.bytes[k] <- v` (R73). -/
def Backing.store (m : Backing) (k : Nat) (v : Byte) : Backing :=
  { m with bytes := Memory.write m.bytes k v }

/-- Consecutive bytes of the resource written from an offset on (R82). -/
def Backing.load (m : Backing) (k : Nat) (vs : List Byte) : Backing :=
  { m with bytes := Memory.load m.bytes k vs }

/-- `m.bytes[k]` of the resource at a place (R71). No registration names a place with no resource
(`State.wf`); it would read as a byte nothing has written. -/
def readBacking (ms : List Backing) (place k : Nat) : Byte :=
  match ms[place]? with
  | some m => Memory.read m.bytes k
  | none => Memory.unlisted

/-- `m.bytes[k] <- v` of the resource at a place (R73). -/
def storeBacking (ms : List Backing) (place k : Nat) (v : Byte) : List Backing :=
  ms.modify place (fun m => m.store k v)

/-! ### Resolution of an access -/

/-- Visibility of a tag in a scope (spec/20_memory.md R62). -/
def Privilege.visibleIn : Privilege → SecurityLevel → Bool
  | .both, _ => true
  | .system, .system => true
  | .system, .user => false
  | .user, .user => true
  | .user, .system => false

/-- The address lies in the range, both ends inclusive (R67). -/
def Resource.contains (r : Resource) (a : Word) : Bool :=
  decide (r.first.toNat ≤ a.toNat) && decide (a.toNat ≤ r.last.toNat)

/-- The resource is what the scope has at the address, mapped registers apart (R71). -/
def Resource.covers (r : Resource) (scope : SecurityLevel) (a : Word) : Bool :=
  r.tag.visibleIn scope && r.contains a

/-- The local offset a − begin (R68). -/
def Resource.offset (r : Resource) (a : Word) : Nat := a.toNat - r.first.toNat

/-- `Size()` (R67): end − begin + 1. -/
def Resource.size (r : Resource) : Nat := r.last.toNat - r.first.toNat + 1

/-- The mapped register is visible in the scope at the address (R71). -/
def MappedRegister.standsAt (g : MappedRegister) (scope : SecurityLevel) (a : Word) : Bool :=
  g.tag.visibleIn scope && (g.address == a)

/-- What stands at an address in a scope. -/
inductive Target where
  | device (index : Nat)
  | resource (r : Resource)
  | unmapped
  deriving DecidableEq, Repr

/-- The visible resource at an address, mapped registers apart (R71, R82). -/
def State.resourceAt (s : State) (scope : SecurityLevel) (a : Word) : Option Resource :=
  s.resources.find? (fun r => r.covers scope a)

/-- Resolution (R71, R73, R74): a visible mapped register first, else the visible resource. -/
def State.route (s : State) (scope : SecurityLevel) (a : Word) : Target :=
  match s.mapped.find? (fun g => g.standsAt scope a) with
  | some g => .device g.device
  | none =>
    match s.resourceAt scope a with
    | some r => .resource r
    | none => .unmapped

/-- The scope maps something at the address: an access there does not fault (R75). -/
def State.accessible (s : State) (scope : SecurityLevel) (a : Word) : Bool :=
  match s.route scope a with
  | .device _ => true
  | .resource _ => true
  | .unmapped => false

/-- The byte a resource registration has at an address (R71). -/
def State.resourceByte (s : State) (r : Resource) (a : Word) : Byte :=
  readBacking s.backings r.backing (r.offset a)

/-- The byte a resource registration has at an address replaced (R73). -/
def State.storeByte (s : State) (r : Resource) (a : Word) (v : Byte) : State :=
  s.withBackings (storeBacking s.backings r.backing (r.offset a) v)

/-- The resource byte a scope has at an address, whether or not a mapped register shadows it. -/
def State.peek (s : State) (scope : SecurityLevel) (a : Word) : Option Byte :=
  (s.resourceAt scope a).map (fun r => s.resourceByte r a)

/-- The byte a read gives where it reaches a plain resource, so that it has no side effect (R68, R79). -/
def State.plainByte (s : State) (scope : SecurityLevel) (a : Word) : Option Byte :=
  match s.route scope a with
  | .device _ => none
  | .resource r => some (s.resourceByte r a)
  | .unmapped => none

/-! ### Devices (R72, R92) -/

/-- The byte `g.Read` gives. A device without functions, the LCD control register (R92 gives it no read
function) and a place with no device answer a draw. Log 9, log 22. -/
def State.deviceValue (s : State) (index : Nat) : Byte :=
  match s.devices[index]? with
  | none => Config.freeByte s.draws
  | some .unknown => Config.freeByte s.draws
  | some (.lcdControl _ _ _) => Config.freeByte s.draws
  | some (.latch v) => v
  | some (.custom id _) => (Config.deviceRead id index s.devices).1

/-- The state after `g.Read`. -/
def State.afterDeviceRead (s : State) (index : Nat) : State :=
  match s.devices[index]? with
  | none => s.drawn
  | some .unknown => s.drawn
  | some (.lcdControl _ _ _) => s.drawn
  | some (.latch _) => s
  | some (.custom id _) => s.withDevices (Config.deviceRead id index s.devices).2

/-- A write of v to the LCD control register: `EnableVideo()` on a rising edge of bit 7,
`DisableVideo()` on a falling one, nothing otherwise (R92). -/
def writeLcdControl (last : Byte) (enables disables : Nat) (v : Byte) : Device :=
  let rising := !last.getLsbD 7 && v.getLsbD 7
  let falling := last.getLsbD 7 && !v.getLsbD 7
  .lcdControl v (if rising then enables + 1 else enables) (if falling then disables + 1 else disables)

/-- The devices' states after `g.Write(v)`. -/
def devicesAfterWrite (devices : List Device) (index : Nat) (v : Byte) : List Device :=
  match devices[index]? with
  | none => devices
  | some .unknown => devices
  | some (.lcdControl last enables disables) =>
    devices.set index (writeLcdControl last enables disables v)
  | some (.latch _) => devices.set index (.latch v)
  | some (.custom id _) => Config.deviceWrite id index v devices

/-! ### Reads and writes of one byte -/

/-- The byte a read of an accessible address gives (R71). -/
def State.readValue (s : State) (scope : SecurityLevel) (a : Word) : Byte :=
  match s.route scope a with
  | .device index => s.deviceValue index
  | .resource r => s.resourceByte r a
  | .unmapped => Memory.unlisted

/-- The state after a read: only a device read changes anything (R79). -/
def State.afterRead (s : State) (scope : SecurityLevel) (a : Word) : State :=
  match s.route scope a with
  | .device index => s.afterDeviceRead index
  | .resource _ => s
  | .unmapped => s

/-- The state after a write of v (R73). -/
def State.afterWrite (s : State) (scope : SecurityLevel) (a : Word) (v : Byte) : State :=
  match s.route scope a with
  | .device index => s.withDevices (devicesAfterWrite s.devices index v)
  | .resource r => s.storeByte r a v
  | .unmapped => s

/-- `MemReadScope(s, a, 1)` (R71, R75): the byte and the state after, or the fault. -/
def memReadScope (scope : SecurityLevel) (a : Word) (s : State) : Except Fault (Byte × State) :=
  if s.accessible scope a then .ok (s.readValue scope a, s.afterRead scope a)
  else raise (.memoryUnmapped a) s

/-- `MemRead(a, 1)` (R70): at the current level. -/
def memRead (a : Word) (s : State) : Except Fault (Byte × State) := memReadScope s.level a s

/-- `MemWrite(a, 1, v)` (R73, R75): at the current level. -/
def memWrite (a : Word) (v : Byte) (s : State) : Except Fault State :=
  if s.accessible s.level a then .ok (s.afterWrite s.level a v)
  else raise (.memoryUnmapped a) s

/-- `MemRead(a, 2)`, host interface only (R81): low byte at the lower address, read first. -/
def memReadWord (a : Word) (s : State) : Except Fault (Word × State) := do
  let (low, s) ← memRead a s
  let (high, s) ← memRead (a + 1) s
  .ok (join high low, s)

/-- `MemWrite(a, 2, v)` (R81): low byte first; also the write-back of a pair at an immediate address
(spec/40_pipeline.md R170). -/
def memWriteWord (a : Word) (v : Word) (s : State) : Except Fault State := do
  let s ← memWrite a (lo v) s
  memWrite (a + 1) (hi v) s

/-! ### Placing bytes from outside -/

/-- A byte put where a read of the address in the scope reaches it with no side effect: a mapped register
visible there is taken away, a one-byte resource of the scope's own tag is registered where the scope
maps none. -/
def State.placeByte (s : State) (scope : SecurityLevel) (a : Word) (v : Byte) : State :=
  let s := s.withMapped (s.mapped.filter (fun g => !g.standsAt scope a))
  match s.resourceAt scope a with
  | some r => s.storeByte r a v
  | none =>
    let tag : Privilege := match scope with
      | .system => .system
      | .user => .user
    { s with
      backings := s.backings ++ [{ size := 1, bytes := Memory.write [] 0 v }]
      resources := { handle := s.nextHandle, backing := s.backings.length, first := a, last := a,
                     tag := tag } :: s.resources
      nextHandle := s.nextHandle + 1 }

/-- Bytes put at consecutive addresses, modulo 2^16. -/
def State.placeBytes (s : State) (scope : SecurityLevel) (a : Word) : List Byte → State
  | [] => s
  | v :: vs => (s.placeByte scope a v).placeBytes scope (a + 1) vs

end Sys2Proof.Machine
end

