-- ==== Sys2Proof/Machine/Operands.lean ====
section
/-! DEFINITION. The addressing-mode engine (spec/40_pipeline.md sections 3, 4, 5 and 8): the
DecodedInstruction, the 25 modes and their descriptors, operand acquisition (step 3) and write-back
(step 5). -/

namespace Sys2Proof.Machine

/-- Opcode identities (R136). -/
inductive Opcode where
  | nop | ld | ldu | push | pop | add | adc | sub | sbc | and | xor | or | cp | inc | dec | daa | cpl
  | scf | ccf | rlca | rrca | rla | rra | rlc | rrc | rl | rr | sla | sra | swap | srl | bit | res | set
  | jp | jpu | jr | call | ret | reti | rst | halt | stop | di | ei
  deriving DecidableEq, Repr

/-- The closed enumeration of 25 addressing modes (R137). -/
inductive AddressingMode where
  | register | immediate | singleImmediatePair | registerIndexedSource | registerIndexedDestination
  | registerIndirectSource | registerIndirectDestination | registerIndirectSourceAndDestination
  | extendedSource | extendedDestination | immediateRegisterIndirect
  | registerIndirectSourceIncrement | registerIndirectSourceDecrement
  | registerIndirectDestinationIncrement | registerIndirectDestinationDecrement
  | registerImplicitSource | registerImplicitDestination
  | immediateImplicitSource | immediateImplicitDestination | immediatePair | registerPair
  | registerIndirectSourcePair | registerIndirectDestinationPair | extendedDestinationPair
  | subRoutineCall
  deriving DecidableEq, Repr

/-- How `di.op1` is acquired (R138). -/
inductive Op1Step where
  | skip | atPC | implicitReg | atRegister
  deriving DecidableEq, Repr

/-- How `di.op2` is acquired (R138). -/
inductive Op2Step where
  | skip | atPC | atComposed | direct | implicitImm
  deriving DecidableEq, Repr

/-- The write-back step (R138). -/
inductive WriteBackStep where
  | skip | atOperandAddress | atRegister | atComposed | implicitReg | implicitImm | pairAtSP | pairAtImm
  deriving DecidableEq, Repr

/-- A descriptor (R138). -/
structure Traits where
  op1 : Op1Step := .skip
  op2 : Op2Step := .skip
  op3 : Bool := false
  incSrc : Bool := false
  decSrc : Bool := false
  incDst : Bool := false
  decDst : Bool := false
  wb : WriteBackStep := .skip
  deriving DecidableEq, Repr

/-- The descriptor table (R139). -/
def descriptors : List (AddressingMode × Traits) := [
  (.register, {}),
  (.immediate, { op1 := .atPC }),
  (.singleImmediatePair, { op1 := .atPC }),
  (.registerIndexedSource, { op1 := .atPC, op2 := .atComposed }),
  (.registerIndexedDestination, { op1 := .atPC, wb := .atOperandAddress }),
  (.registerIndirectSource, { op1 := .atRegister }),
  (.registerIndirectDestination, { wb := .atRegister }),
  (.registerIndirectSourceAndDestination, { op1 := .atRegister, wb := .atRegister }),
  (.extendedSource, { op1 := .atPC, op2 := .atPC, op3 := true }),
  (.extendedDestination, { op1 := .atPC, op2 := .atPC, wb := .atComposed }),
  (.immediateRegisterIndirect, { op1 := .atPC, wb := .atRegister }),
  (.registerIndirectSourceIncrement, { op1 := .atRegister, incSrc := true }),
  (.registerIndirectSourceDecrement, { op1 := .atRegister, decSrc := true }),
  (.registerIndirectDestinationIncrement, { incDst := true, wb := .atRegister }),
  (.registerIndirectDestinationDecrement, { decDst := true, wb := .atRegister }),
  (.registerImplicitSource, { op1 := .implicitReg }),
  (.registerImplicitDestination, { wb := .implicitReg }),
  (.immediateImplicitSource, { op1 := .atPC, op2 := .implicitImm }),
  (.immediateImplicitDestination, { op1 := .atPC, wb := .implicitImm }),
  (.immediatePair, { op1 := .atPC, op2 := .atPC }),
  (.registerPair, {}),
  (.registerIndirectSourcePair, { op1 := .atRegister, op2 := .direct, incSrc := true }),
  (.registerIndirectDestinationPair, { wb := .pairAtSP }),
  (.extendedDestinationPair, { op1 := .atPC, op2 := .atPC, wb := .pairAtImm }),
  (.subRoutineCall, { op1 := .atPC, op2 := .atPC, wb := .pairAtSP }) ]

/-- `AcquireAddressingModeTraits` (R149): none is the AluError of a mode without a descriptor. -/
def traitsOf (m : AddressingMode) : Option Traits :=
  (descriptors.find? (fun d => d.1 == m)).map (fun d => d.2)

/-- `RIS_MODES` (R135). -/
def isRegisterIndirectSource : AddressingMode → Bool
  | .registerIndirectSource | .registerIndirectSourceAndDestination
  | .registerIndirectSourceIncrement | .registerIndirectSourceDecrement
  | .registerIndirectSourcePair => true
  | .register | .immediate | .singleImmediatePair | .registerIndexedSource
  | .registerIndexedDestination | .registerIndirectDestination | .extendedSource
  | .extendedDestination | .immediateRegisterIndirect | .registerIndirectDestinationIncrement
  | .registerIndirectDestinationDecrement | .registerImplicitSource | .registerImplicitDestination
  | .immediateImplicitSource | .immediateImplicitDestination | .immediatePair | .registerPair
  | .registerIndirectDestinationPair | .extendedDestinationPair | .subRoutineCall => false

/-- The DecodedInstruction (R136): the defaults are `FreshDI()`. -/
structure DecodedInstruction where
  opcode : Opcode
  mode : AddressingMode
  src : Option Register := none
  dst : Option Register := none
  extra : Byte := 0
  op1 : Byte := 0
  op2 : Byte := 0
  op3 : Byte := 0
  res1 : Byte := 0
  res2 : Byte := 0
  deriving DecidableEq, Repr

/-- `sig.umsor` of a decoded instruction (R135). -/
def DecodedInstruction.requestsUserSource (di : DecodedInstruction) : Bool :=
  (di.opcode == .ldu) && isRegisterIndirectSource di.mode

/-- The 16-bit immediate `di.op2 : di.op1` (R104 (c)). -/
def DecodedInstruction.immediate (di : DecodedInstruction) : Word := join di.op2 di.op1

/-- The operand bytes of an nn operand, as the two operand-at-PC reads left them (R104 (c)). -/
def DecodedInstruction.withImmediate (di : DecodedInstruction) (nn : Word) : DecodedInstruction :=
  { di with op1 := lo nn, op2 := hi nn }

/-- The 16-bit result in `di.res1` (low) and `di.res2` (high) (R136). -/
def DecodedInstruction.withPairResult (di : DecodedInstruction) (v : Word) : DecodedInstruction :=
  { di with res1 := lo v, res2 := hi v }

/-! ### Named registers of a decoded instruction -/

/-- What operations on the RegisterBank alone give: a result, or a RegisterBank error with the bank as the
writes before it left it (spec/10_state.md R21, spec/60_exceptions.md R433). -/
abbrev BankResult (α : Type) := Except RegisterBank α

/-- One operation of the bank by name: none is its error, which changes no cell (R21). -/
def RegisterBank.attempt {α : Type} (rb : RegisterBank) (x : Option α) : BankResult α :=
  match x with
  | some v => .ok v
  | none => .error rb

/-- `r8[x]` of a register field of `di`. A field that is none names no register: DESIGN CHOICE, the
RegisterBank error (log 24). -/
def RegisterBank.readField (rb : RegisterBank) (x : Option Register) : BankResult Byte :=
  rb.attempt (x.bind rb.read)

/-- `r16[x]` of a register field of `di`. A field that is none: DESIGN CHOICE, the RegisterBank error
(log 24). -/
def RegisterBank.readPairField (rb : RegisterBank) (x : Option Register) : BankResult Word :=
  rb.attempt (x.bind rb.readPair)

/-- `r8[x] <- v` for a register field of `di`. A field that is none: DESIGN CHOICE, the RegisterBank error
(log 24). -/
def RegisterBank.writeField (rb : RegisterBank) (x : Option Register) (v : Byte) :
    BankResult RegisterBank :=
  rb.attempt (x.bind fun x => rb.write x v)

/-- `r16[x] <- v` for a register field of `di`. A field that is none: DESIGN CHOICE, the RegisterBank error
(log 24). -/
def RegisterBank.writePairField (rb : RegisterBank) (x : Option Register) (v : Word) :
    BankResult RegisterBank :=
  rb.attempt (x.bind fun x => rb.writePair x v)

/-- Operations on the RegisterBank inside a cycle: their failure is `Fault(RegisterBankError)` (R21), with
the registers written before it kept (R433). -/
def orBankError {α : Type} (x : BankResult α) (s : State) : Except Fault α :=
  match x with
  | .ok v => .ok v
  | .error rb => raise .registerBankError (s.withRegs rb)

/-! ### Step 3: acquire operands -/

/-- `StepSrc` (R174). -/
def stepSrc (t : Traits) (di : DecodedInstruction) (s : State) : Except Fault State :=
  if t.incSrc || t.decSrc then do
    let p ← orBankError (s.regs.readPairField di.src) s
    let p := if t.incSrc then p + 1 else p
    let p := if t.decSrc then p - 1 else p
    let rb ← orBankError (s.regs.writePairField di.src p) s
    .ok (s.withRegs rb)
  else .ok s

/-- `StepDst` (R174). -/
def stepDst (t : Traits) (di : DecodedInstruction) (s : State) : Except Fault State :=
  if t.incDst || t.decDst then do
    let p ← orBankError (s.regs.readPairField di.dst) s
    let p := if t.incDst then p + 1 else p
    let p := if t.decDst then p - 1 else p
    let rb ← orBankError (s.regs.writePairField di.dst p) s
    .ok (s.withRegs rb)
  else .ok s

/-- The scope of the reads addressed by the source pair (R140). -/
def sourceScope (s : State) : SecurityLevel :=
  if s.sig.umsor then Config.lduSourceScope else s.level

/-- `di.op1` (R141 to R143). The operand-at-PC bytes were read before, by Fetch.lean (log 5). -/
def acquireOp1 (t : Traits) (di : DecodedInstruction) (s : State) :
    Except Fault (DecodedInstruction × State) :=
  match t.op1 with
  | .skip => .ok (di, s)
  | .atPC => .ok (di, s)
  | .implicitReg => do
    let x ← orBankError (s.regs.readField di.src) s
    let (v, s) ← memRead (highAddress x) s
    .ok ({ di with op1 := v }, s)
  | .atRegister => do
    let p ← orBankError (s.regs.readPairField di.src) s
    let (v, s) ← memReadScope (sourceScope s) p s
    let s ← stepSrc t di s
    .ok ({ di with op1 := v }, s)

/-- `di.op2` (R141, R144 to R146). -/
def acquireOp2 (t : Traits) (di : DecodedInstruction) (s : State) :
    Except Fault (DecodedInstruction × State) :=
  match t.op2 with
  | .skip => .ok (di, s)
  | .atPC => .ok (di, s)
  | .atComposed => do
    let p ← orBankError (s.regs.readPairField di.src) s
    let (v, s) ← memRead (p + sext di.op1) s
    .ok ({ di with op2 := v }, s)
  | .direct => do
    let p ← orBankError (s.regs.readPairField di.src) s
    let (v, s) ← memReadScope (sourceScope s) p s
    let s ← stepSrc t di s
    .ok ({ di with op2 := v }, s)
  | .implicitImm => do
    let (v, s) ← memRead (highAddress di.op1) s
    .ok ({ di with op2 := v }, s)

/-- `di.op3` (R147). -/
def acquireOp3 (t : Traits) (di : DecodedInstruction) (s : State) :
    Except Fault (DecodedInstruction × State) :=
  if t.op3 then do
    let (v, s) ← memRead di.immediate s
    .ok ({ di with op3 := v }, s)
  else .ok (di, s)

/-- Step 3 as a whole (R148). -/
def acquire (t : Traits) (di : DecodedInstruction) (s : State) :
    Except Fault (DecodedInstruction × State) := do
  let (di, s) ← acquireOp1 t di s
  let (di, s) ← acquireOp2 t di s
  acquireOp3 t di s

/-! ### Helpers of the handlers -/

/-- `SrcVal(di)` (R154). A mode it does not name has no 8-bit source value:
DESIGN CHOICE, the RegisterBank error (log 24). -/
def sourceValue (rb : RegisterBank) (di : DecodedInstruction) : BankResult Byte :=
  match di.mode with
  | .register => rb.readField di.src
  | .immediate => .ok di.op1
  | .immediateRegisterIndirect => .ok di.op1
  | .registerIndirectSource => .ok di.op1
  | .registerIndirectSourceIncrement => .ok di.op1
  | .registerIndirectSourceDecrement => .ok di.op1
  | .registerIndirectSourceAndDestination => .ok di.op1
  | .registerImplicitSource => .ok di.op1
  | .registerIndexedSource => .ok di.op2
  | .immediateImplicitSource => .ok di.op2
  | .extendedSource => .ok di.op3
  | .singleImmediatePair | .registerIndexedDestination | .registerIndirectDestination
  | .extendedDestination | .registerIndirectDestinationIncrement
  | .registerIndirectDestinationDecrement | .registerImplicitDestination
  | .immediateImplicitDestination | .immediatePair | .registerPair | .registerIndirectSourcePair
  | .registerIndirectDestinationPair | .extendedDestinationPair | .subRoutineCall => .error rb

/-- The mode has no write-back, so an 8-bit result goes to a register (R155). -/
def writesRegister (m : AddressingMode) : Bool :=
  match traitsOf m with
  | some t => t.wb == .skip
  | none => true

/-- `PutResult8(di, v)` (R155). -/
def putResult8 (rb : RegisterBank) (di : DecodedInstruction) (v : Byte) :
    BankResult (RegisterBank × DecodedInstruction) :=
  if writesRegister di.mode then (rb.writeField di.dst v).map (fun rb => (rb, di))
  else .ok (rb, { di with res1 := v })

/-! ### Step 5: write back -/

/-- The push (R167): SP is stored last, so a faulting write leaves it. -/
def pushResult (di : DecodedInstruction) (s : State) : Except Fault State := do
  let sp := s.regs.sp - 2
  let s ← memWrite (sp + 1) di.res2 s
  let s ← memWrite sp di.res1 s
  .ok (s.withRegs (s.regs.set16 .sp sp))

/-- Step 5 (R164 to R171). -/
def writeBack (t : Traits) (di : DecodedInstruction) (s : State) : Except Fault State :=
  if s.sig.aborted then .ok s
  else
    match t.wb with
    | .skip => .ok s
    | .atOperandAddress => do
      let p ← orBankError (s.regs.readPairField di.dst) s
      memWrite (p + sext di.op1) di.res1 s
    | .atRegister => do
      let p ← orBankError (s.regs.readPairField di.dst) s
      let s ← memWrite p di.res1 s
      stepDst t di s
    | .atComposed => memWrite di.immediate di.res1 s
    | .implicitReg => do
      let x ← orBankError (s.regs.readField di.dst) s
      memWrite (highAddress x) di.res1 s
    | .implicitImm => memWrite (highAddress di.op1) di.res1 s
    | .pairAtSP => pushResult di s
    | .pairAtImm => memWriteWord di.immediate (join di.res2 di.res1) s

end Sys2Proof.Machine
end

