-- ==== Sys2Proof/Machine/Flags.lean ====
section
/-! DEFINITION. Every result-and-flag computation of the baseline table: the 8-bit ALU function
(spec/43_alu8.md R260), increments and decrements (R285, R287), 16-bit additions
(spec/44_alu16_misc.md R301), SP plus displacement (R304, spec/42_load16_stack.md R244), DAA (R305), the
shift function (spec/45_rotate_shift_bit.md R320), and the conditions (spec/46_control_transfer.md R350).
Sums and differences that decide a flag are taken on integers, as the spec writes them. -/

namespace Sys2Proof.Machine

/-- The eight ALU operations (R260). -/
inductive AluOp where
  | add | adc | sub | sbc | and | xor | or | cp
  deriving DecidableEq, Repr

/-- The eight shift operations (R320). -/
inductive ShiftOp where
  | rlc | rrc | rl | rr | sla | sra | swap | srl
  deriving DecidableEq, Repr

/-- A result byte with the four flags. -/
structure FlaggedByte where
  res : Byte
  z : Bool
  n : Bool
  h : Bool
  cy : Bool
  deriving DecidableEq, Repr

/-- The low nibble `v & 0xF` as an integer. -/
def nibble (v : Byte) : Nat := v.toNat % 16

/-- A flag as 0 or 1. -/
def carryIn (c : Bool) : Nat := if c then 1 else 0

/-- `ALU8(op, a, v, cin)` (R260). -/
def alu8 (op : AluOp) (a v : Byte) (cin : Bool) : FlaggedByte :=
  match op with
  | .add =>
    let res := BitVec.ofNat 8 (a.toNat + v.toNat)
    { res := res, z := res == 0, n := false, h := decide (nibble a + nibble v > 0xF),
      cy := decide (a.toNat + v.toNat > 0xFF) }
  | .adc =>
    let res := BitVec.ofNat 8 (a.toNat + v.toNat + carryIn cin)
    { res := res, z := res == 0, n := false, h := decide (nibble a + nibble v + carryIn cin > 0xF),
      cy := decide (a.toNat + v.toNat + carryIn cin > 0xFF) }
  | .sub =>
    let res := BitVec.ofInt 8 (a.toNat - v.toNat)
    { res := res, z := res == 0, n := true, h := decide (nibble a < nibble v),
      cy := decide (a.toNat < v.toNat) }
  | .sbc =>
    let res := BitVec.ofInt 8 (a.toNat - v.toNat - carryIn cin)
    { res := res, z := res == 0, n := true, h := decide (nibble a < nibble v + carryIn cin),
      cy := decide (a.toNat < v.toNat + carryIn cin) }
  | .and => { res := a &&& v, z := (a &&& v) == 0, n := false, h := true, cy := false }
  | .xor => { res := a ^^^ v, z := (a ^^^ v) == 0, n := false, h := false, cy := false }
  | .or => { res := a ||| v, z := (a ||| v) == 0, n := false, h := false, cy := false }
  | .cp =>
    let res := BitVec.ofInt 8 (a.toNat - v.toNat)
    { res := res, z := res == 0, n := true, h := decide (nibble a < nibble v),
      cy := decide (a.toNat < v.toNat) }

/-- All four flags written, each by its one-bit `Write` (R31, R260); bits 3 to 0 of F are kept. -/
def RegisterBank.writeFlags (rb : RegisterBank) (z n h cy : Bool) : RegisterBank :=
  (((rb.writeFlag .z z).writeFlag .n n).writeFlag .h h).writeFlag .cy cy

/-- Z, N and H written; CY kept (R285, R287, R341). -/
def RegisterBank.writeZnh (rb : RegisterBank) (z n h : Bool) : RegisterBank :=
  ((rb.writeFlag .z z).writeFlag .n n).writeFlag .h h

/-- N, H and CY written; Z kept (R301, R307, R308). -/
def RegisterBank.writeNhc (rb : RegisterBank) (n h cy : Bool) : RegisterBank :=
  ((rb.writeFlag .n n).writeFlag .h h).writeFlag .cy cy

/-- `Execute_ALU8` (R260) on a source value: A is written except by CP. -/
def applyAlu8 (op : AluOp) (v : Byte) (rb : RegisterBank) : RegisterBank :=
  let r := alu8 op rb.a v (rb.flag .cy)
  let rb := rb.writeFlags r.z r.n r.h r.cy
  if op = .cp then rb else rb.set8 .a r.res

/-- The result and the flags Z, N, H of an 8-bit increment (R285); CY is not changed. -/
def applyInc8 (v : Byte) (rb : RegisterBank) : Byte × RegisterBank :=
  let res := BitVec.ofNat 8 (v.toNat + 1)
  (res, rb.writeZnh (res == 0) false (nibble v == 0xF))

/-- The result and the flags Z, N, H of an 8-bit decrement (R287); CY is not changed. -/
def applyDec8 (v : Byte) (rb : RegisterBank) : Byte × RegisterBank :=
  let res := BitVec.ofInt 8 (v.toNat - 1)
  (res, rb.writeZnh (res == 0) true (nibble v == 0x0))

/-- Carry out of bit 11 of a 16-bit addition (R301). -/
def carry11 (a b : Word) : Bool := decide (a.toNat % 0x1000 + b.toNat % 0x1000 > 0x0FFF)

/-- Carry out of bit 15 of a 16-bit addition (R301). -/
def carry15 (a b : Word) : Bool := decide (a.toNat + b.toNat > 0xFFFF)

/-- Carry out of bit 3 of the unsigned addition of SP's low byte and e (R244, R304). -/
def displacementH (sp : Word) (e : Byte) : Bool := decide (sp.toNat % 16 + e.toNat % 16 > 0x0F)

/-- Carry out of bit 7 of the unsigned addition of SP's low byte and e (R244, R304). -/
def displacementC (sp : Word) (e : Byte) : Bool := decide (sp.toNat % 256 + e.toNat > 0xFF)

/-- The adjusted accumulator (as an integer before the final mod 256) and the new CY of `DAA` (R305). -/
def daaAdjust (a : Byte) (n h cy : Bool) : Int × Bool :=
  if n then
    let x : Int := a.toNat
    let x := if cy then x - 0x60 else x
    let x := if h then x - 0x06 else x
    (x, cy)
  else
    let high := cy || decide (a.toNat > 0x99)
    let x : Int := a.toNat
    let x := if high then x + 0x60 else x
    let x := if h || decide (nibble a > 0x09) then x + 0x06 else x
    (x, high)

/-- `DAA` on the RegisterBank (R305): N is not changed. -/
def applyDaa (rb : RegisterBank) : RegisterBank :=
  let r := daaAdjust rb.a (rb.flag .n) (rb.flag .h) (rb.flag .cy)
  let a := BitVec.ofInt 8 r.1
  (((rb.set8 .a a).writeFlag .z (a == 0)).writeFlag .h false).writeFlag .cy r.2

/-- `SHIFT(op, v, cin)` (R320): the result and the bit shifted out. -/
def shift (op : ShiftOp) (v : Byte) (cin : Bool) : Byte × Bool :=
  let bit7 : Byte := if v.getLsbD 0 then 0x80 else 0x00
  let bit0 : Byte := if v.getLsbD 7 then 0x01 else 0x00
  let cinLow : Byte := if cin then 0x01 else 0x00
  let cinHigh : Byte := if cin then 0x80 else 0x00
  match op with
  | .rlc => ((v <<< 1) ||| bit0, v.getLsbD 7)
  | .rrc => ((v >>> 1) ||| bit7, v.getLsbD 0)
  | .rl => ((v <<< 1) ||| cinLow, v.getLsbD 7)
  | .rr => ((v >>> 1) ||| cinHigh, v.getLsbD 0)
  | .sla => (v <<< 1, v.getLsbD 7)
  | .sra => ((v >>> 1) ||| (v &&& 0x80), v.getLsbD 0)
  | .swap => (((v &&& 0x0F) <<< 4) ||| (v >>> 4), false)
  | .srl => (v >>> 1, v.getLsbD 0)

/-- The result and the flags of a 0xCB-page rotate or shift (R320). -/
def applyShift (op : ShiftOp) (v : Byte) (rb : RegisterBank) : Byte × RegisterBank :=
  let r := shift op v (rb.flag .cy)
  (r.1, rb.writeFlags (r.1 == 0) false false r.2)

/-- `di.extra` of an unconditional encoding on a Conditional handler (R350). -/
def unconditionalExtra : Byte := 0xFF

/-- `CondHolds(x)` (R350). -/
def conditionHolds (rb : RegisterBank) (x : Byte) : Bool :=
  (x == unconditionalExtra) || (x == 0 && !rb.flag .z) || (x == 1 && rb.flag .z)
    || (x == 2 && !rb.flag .cy) || (x == 3 && rb.flag .cy)

/-- The bit index as `di.extra` (R341). -/
def bitExtra (b : BitVec 3) : Byte := b.setWidth 8

/-- `1 << di.extra` (R343). No bit for an index above 7, which no baseline Decode sets: DESIGN CHOICE (log 24). -/
def bitMask (x : Byte) : Byte := (1 : Byte) <<< x.toNat

/-- `di.extra` of `RST t`: the target's low byte 8 × t (R372). -/
def restartExtra (t : BitVec 3) : Byte := (t.setWidth 8) <<< 3

end Sys2Proof.Machine
end

