-- ==== Sys2Proof/Machine/Pipeline.lean ====
section
/-! DEFINITION. The handler contract and the cycle from the decode signal to write-back
(spec/40_pipeline.md R133 to R135, R148, R150 to R153, R160 to R164, R173), and the handlers of the
baseline table. A handler reads and writes the RegisterBank and the DecodedInstruction only (R151);
its
failure is a RegisterBank error with the bank as it was then (R21, R433), which no instruction of the table
provokes. -/

namespace Sys2Proof.Machine

/-- `Handler = Unconditional(fn) | Conditional(fn)` (R150); the Bool of a conditional one is true when
the condition failed (R153). -/
inductive Handler where
  | unconditional (f : RegisterBank → DecodedInstruction → BankResult (RegisterBank × DecodedInstruction))
  | conditional
      (f : RegisterBank → DecodedInstruction → BankResult (RegisterBank × DecodedInstruction × Bool))

/-- The post-execution signals, from the opcode identity of an instruction that did not abort (R162). -/
def Signals.derive (g : Signals) (opcode : Opcode) : Signals :=
  match opcode with
  | .reti => { g with cis := true }
  | .halt => { g with halt := true }
  | .stop => { g with stop := true }
  | .ei => { g with ime := true }
  | .di => { g with ime := false }
  | .jpu => { g with umr := true }
  | .nop | .ld | .ldu | .push | .pop | .add | .adc | .sub | .sbc | .and | .xor | .or | .cp | .inc | .dec
  | .daa | .cpl | .scf | .ccf | .rlca | .rrca | .rla | .rra | .rlc | .rrc | .rl | .rr | .sla | .sra
  | .swap | .srl | .bit | .res | .set | .jp | .jr | .call | .ret | .rst => g

/-- Step 4 (R160 to R162). Where Execute fails with a RegisterBank error, the registers it wrote before keep their
new values (spec/60_exceptions.md R433). -/
def executeStep (h : Handler) (di : DecodedInstruction) (s : State) :
    Except Fault (DecodedInstruction × State) :=
  let s := s.withSig s.sig.resetTransient
  match h with
  | .unconditional f => do
    let (rb, di) ← orBankError (f s.regs di) s
    .ok (di, (s.withRegs rb).withSig (s.sig.derive di.opcode))
  | .conditional f => do
    let (rb, di, failed) ← orBankError (f s.regs di) s
    let s := s.withRegs rb
    if failed then .ok (di, s.withSig { s.sig with aborted := true })
    else .ok (di, s.withSig (s.sig.derive di.opcode))

/-- The cycle of a decoded instruction, from the signal of step 2 to step 5 (R173). -/
def runSteps (h : Handler) (di : DecodedInstruction) (s : State) : Except Fault State := do
  let s := s.withUmsor di.requestsUserSource
  match traitsOf di.mode with
  | none => raise .aluError s
  | some t =>
    let (di, s) ← acquire t di s
    let (di, s) ← executeStep h di s
    writeBack t di s

/-- A cycle's result as the outcome of a step (spec/00_scope.md R17). -/
def finish : Except Fault State → Host.Outcome State Fault Refusal
  | .ok s => .next s
  | .error f => .fault f

/-- The meaning every instruction is an instance of. -/
def cycle (h : Handler) (di : DecodedInstruction) (s : State) : Host.Outcome State Fault Refusal :=
  finish (runSteps h di s)

/-- What step 2 gives (R133): the handler, and the DecodedInstruction that its Decode made. -/
structure Decoded where
  handler : Handler
  di : DecodedInstruction

/-- The rest of the cycle, from the decode signal on. -/
def Decoded.run (d : Decoded) (s : State) : Host.Outcome State Fault Refusal := cycle d.handler d.di s

/-! ### Loads -/

/-- `Execute_LD8` (spec/41_load8.md R200). -/
def executeLd8 (rb : RegisterBank) (di : DecodedInstruction) :
    BankResult (RegisterBank × DecodedInstruction) :=
  if writesRegister di.mode then do
    let v ← sourceValue rb di
    let rb ← rb.writeField di.dst v
    .ok (rb, di)
  else if di.mode = .immediateRegisterIndirect then .ok (rb, { di with res1 := di.op1 })
  else do
    let v ← rb.readField di.src
    .ok (rb, { di with res1 := v })

/-- The handler of the 8-bit `LD`. -/
def handleLd8 : Handler := .unconditional executeLd8

/-- Execute of `LDU` (spec/47_system_privilege.md R386). -/
def executeLdu (rb : RegisterBank) (di : DecodedInstruction) :
    BankResult (RegisterBank × DecodedInstruction) :=
  (rb.writeField di.dst di.op1).map (fun rb => (rb, di))

/-- The handler of `LDU`. -/
def handleLdu : Handler := .unconditional executeLdu

/-- Execute of `LD dd,nn` and of `POP` (spec/42_load16_stack.md R241, R246): `r16[dst] <- op2 : op1`. -/
def executePairFromOperands (rb : RegisterBank) (di : DecodedInstruction) :
    BankResult (RegisterBank × DecodedInstruction) :=
  (rb.writePairField di.dst di.immediate).map (fun rb => (rb, di))

/-- The handler of `LD dd,nn`, `LD I,nn`. -/
def handleLdImmediatePair : Handler := .unconditional executePairFromOperands

/-- The handler of `POP`. -/
def handlePop : Handler := .unconditional executePairFromOperands

/-- Execute of `LD SP,HL`, `LD SP,I` (R242, R417). -/
def executeLdRegisterPair (rb : RegisterBank) (di : DecodedInstruction) :
    BankResult (RegisterBank × DecodedInstruction) := do
  let v ← rb.readPairField di.src
  let rb ← rb.writePairField di.dst v
  .ok (rb, di)

/-- The handler of `LD SP,HL`, `LD SP,I`. -/
def handleLdRegisterPair : Handler := .unconditional executeLdRegisterPair

/-- Execute of `LD (nn),SP` and of `PUSH` (R243, R245): the source pair to `res1`, `res2`. -/
def executeSplitPair (rb : RegisterBank) (di : DecodedInstruction) :
    BankResult (RegisterBank × DecodedInstruction) := do
  let v ← rb.readPairField di.src
  .ok (rb, di.withPairResult v)

/-- The handler of `LD (nn),SP`, `PUSH`. -/
def handleSplitPair : Handler := .unconditional executeSplitPair

/-- Execute of `LD HL,SP+e` and `ADD SP,e` (R244, R304). -/
def executeAddDisplacement (rb : RegisterBank) (di : DecodedInstruction) :
    BankResult (RegisterBank × DecodedInstruction) := do
  let sp ← rb.readPairField di.src
  let rb := rb.writeFlags false false (displacementH sp di.op1) (displacementC sp di.op1)
  let rb ← rb.writePairField di.dst (sp + sext di.op1)
  .ok (rb, di)

/-- The handler of `LD HL,SP+e`, `ADD SP,e`. -/
def handleAddDisplacement : Handler := .unconditional executeAddDisplacement

/-! ### Arithmetic -/

/-- `Execute_ALU8` (spec/43_alu8.md R260). -/
def executeAlu8 (op : AluOp) (rb : RegisterBank) (di : DecodedInstruction) :
    BankResult (RegisterBank × DecodedInstruction) :=
  (sourceValue rb di).map (fun v => (applyAlu8 op v rb, di))

/-- The handler of one ALU operation. -/
def handleAlu8 (op : AluOp) : Handler := .unconditional (executeAlu8 op)

/-- Execute of `INC r`, `INC (HL)` (R285, R286). -/
def executeInc8 (rb : RegisterBank) (di : DecodedInstruction) :
    BankResult (RegisterBank × DecodedInstruction) := do
  let v ← sourceValue rb di
  let r := applyInc8 v rb
  putResult8 r.2 di r.1

/-- The handler of the 8-bit `INC`. -/
def handleInc8 : Handler := .unconditional executeInc8

/-- Execute of `DEC r`, `DEC (HL)` (R287, R288). -/
def executeDec8 (rb : RegisterBank) (di : DecodedInstruction) :
    BankResult (RegisterBank × DecodedInstruction) := do
  let v ← sourceValue rb di
  let r := applyDec8 v rb
  putResult8 r.2 di r.1

/-- The handler of the 8-bit `DEC`. -/
def handleDec8 : Handler := .unconditional executeDec8

/-- Execute of `ADD HL,ss`, `ADD I,pp` (spec/44_alu16_misc.md R301, spec/48_index.md R414). -/
def executeAdd16 (rb : RegisterBank) (di : DecodedInstruction) :
    BankResult (RegisterBank × DecodedInstruction) := do
  let a ← rb.readPairField di.dst
  let b ← rb.readPairField di.src
  let rb := rb.writeNhc false (carry11 a b) (carry15 a b)
  let rb ← rb.writePairField di.dst (a + b)
  .ok (rb, di)

/-- The handler of the 16-bit `ADD`. -/
def handleAdd16 : Handler := .unconditional executeAdd16

/-- Execute of `INC ss`, `INC I` (R302, R412). -/
def executeInc16 (rb : RegisterBank) (di : DecodedInstruction) :
    BankResult (RegisterBank × DecodedInstruction) := do
  let v ← rb.readPairField di.src
  let rb ← rb.writePairField di.dst (v + 1)
  .ok (rb, di)

/-- The handler of the 16-bit `INC`. -/
def handleInc16 : Handler := .unconditional executeInc16

/-- Execute of `DEC ss`, `DEC I` (R303, R413). -/
def executeDec16 (rb : RegisterBank) (di : DecodedInstruction) :
    BankResult (RegisterBank × DecodedInstruction) := do
  let v ← rb.readPairField di.src
  let rb ← rb.writePairField di.dst (v - 1)
  .ok (rb, di)

/-- The handler of the 16-bit `DEC`. -/
def handleDec16 : Handler := .unconditional executeDec16

/-- The handler of `DAA` (R305). -/
def handleDaa : Handler := .unconditional (fun rb di => .ok (applyDaa rb, di))

/-- The handler of `CPL` (R306): Z and CY unchanged. -/
def handleCpl : Handler :=
  .unconditional (fun rb di => .ok (((rb.set8 .a (~~~rb.a)).setFlag .n).setFlag .h, di))

/-- The handler of `SCF` (R307). -/
def handleScf : Handler := .unconditional (fun rb di => .ok (rb.writeNhc false false true, di))

/-- The handler of `CCF` (R308). -/
def handleCcf : Handler :=
  .unconditional (fun rb di => .ok (rb.writeNhc false false (!rb.flag .cy), di))

/-- The handler of an instruction whose Execute does nothing (R309, spec/47_system_privilege.md R381). -/
def handleNop : Handler := .unconditional (fun rb di => .ok (rb, di))

/-! ### Rotates, shifts and bits -/

/-- The handler of `RLCA`, `RRCA`, `RLA`, `RRA` (spec/45_rotate_shift_bit.md R321 to R324). -/
def handleRotateA (op : ShiftOp) : Handler :=
  .unconditional (fun rb di =>
    let r := shift op rb.a (rb.flag .cy)
    .ok ((rb.set8 .a r.1).writeFlags false false false r.2, di))

/-- `Execute_SHIFT` (R320). -/
def executeShift (op : ShiftOp) (rb : RegisterBank) (di : DecodedInstruction) :
    BankResult (RegisterBank × DecodedInstruction) := do
  let v ← sourceValue rb di
  let r := applyShift op v rb
  putResult8 r.2 di r.1

/-- The handler of a 0xCB-page rotate or shift. -/
def handleShift (op : ShiftOp) : Handler := .unconditional (executeShift op)

/-- Execute of `BIT` (R341, R342): CY unchanged, no register written. A bit above 7 reads as 0: DESIGN CHOICE
(log 24). -/
def executeBit (rb : RegisterBank) (di : DecodedInstruction) :
    BankResult (RegisterBank × DecodedInstruction) :=
  (sourceValue rb di).map (fun v => (rb.writeZnh (!v.getLsbD di.extra.toNat) false true, di))

/-- The handler of `BIT`. -/
def handleBit : Handler := .unconditional executeBit

/-- Execute of `RES` (R343, R344). -/
def executeRes (rb : RegisterBank) (di : DecodedInstruction) :
    BankResult (RegisterBank × DecodedInstruction) := do
  let v ← sourceValue rb di
  putResult8 rb di (v &&& ~~~(bitMask di.extra))

/-- The handler of `RES`. -/
def handleRes : Handler := .unconditional executeRes

/-- Execute of `SET` (R345, R346). -/
def executeSet (rb : RegisterBank) (di : DecodedInstruction) :
    BankResult (RegisterBank × DecodedInstruction) := do
  let v ← sourceValue rb di
  putResult8 rb di (v ||| bitMask di.extra)

/-- The handler of `SET`. -/
def handleSet : Handler := .unconditional executeSet

/-! ### Control transfer -/

/-- The target of `JP` (spec/46_control_transfer.md R354): from the source pair in mode RegisterPair, from
the operand bytes otherwise. -/
def jumpTarget (rb : RegisterBank) (di : DecodedInstruction) : BankResult Word :=
  if di.mode = .registerPair then rb.readPairField di.src else .ok di.immediate

/-- ConditionallyExecute of `JP` (R352 to R354). -/
def executeJp (rb : RegisterBank) (di : DecodedInstruction) :
    BankResult (RegisterBank × DecodedInstruction × Bool) :=
  if conditionHolds rb di.extra then
    (jumpTarget rb di).map (fun target => (rb.set16 .pc target, di, false))
  else .ok (rb, di, true)

/-- The handler of `JP`. -/
def handleJp : Handler := .conditional executeJp

/-- ConditionallyExecute of `JR` (R355, R356): PC already addresses the next instruction. -/
def executeJr (rb : RegisterBank) (di : DecodedInstruction) :
    BankResult (RegisterBank × DecodedInstruction × Bool) :=
  if conditionHolds rb di.extra then .ok (rb.set16 .pc (rb.pc + sext di.op1), di, false)
  else .ok (rb, di, true)

/-- The handler of `JR`. -/
def handleJr : Handler := .conditional executeJr

/-- ConditionallyExecute of `CALL` (R360, R361): the push itself is step 5. -/
def executeCall (rb : RegisterBank) (di : DecodedInstruction) :
    BankResult (RegisterBank × DecodedInstruction × Bool) :=
  if conditionHolds rb di.extra then
    .ok (rb.set16 .pc di.immediate, di.withPairResult rb.pc, false)
  else .ok (rb, di, true)

/-- The handler of `CALL`. -/
def handleCall : Handler := .conditional executeCall

/-- ConditionallyExecute of `RET` (R365, R366): a failed condition undoes the pop of step 3. -/
def executeRet (rb : RegisterBank) (di : DecodedInstruction) :
    BankResult (RegisterBank × DecodedInstruction × Bool) :=
  if conditionHolds rb di.extra then .ok (rb.set16 .pc di.immediate, di, false)
  else .ok (rb.set16 .sp (rb.sp - 2), di, true)

/-- The handler of `RET`. -/
def handleRet : Handler := .conditional executeRet

/-- The handler of `RETI` (R367): the return from an interrupt routine restores PC and nothing else
(spec/60_exceptions.md R438); the signal is step 4's. -/
def handleReti : Handler := .unconditional (fun rb di => .ok (rb.set16 .pc di.immediate, di))

/-- Execute of `RST` (R372). -/
def executeRst (rb : RegisterBank) (di : DecodedInstruction) :
    BankResult (RegisterBank × DecodedInstruction) :=
  .ok (rb.set16 .pc (zext di.extra), di.withPairResult rb.pc)

/-- The handler of `RST`. -/
def handleRst : Handler := .unconditional executeRst

/-- The handler of `JPU` (spec/47_system_privilege.md R392). -/
def handleJpu : Handler := .unconditional (fun rb di => .ok (rb.set16 .pc di.immediate, di))

end Sys2Proof.Machine
end

