-- ==== Sys2Proof/Machine/Alu16.lean ====
section
/-! DEFINITION. The meanings of 16-bit arithmetic and accumulator/flag operations (spec/44_alu16_misc.md):
for each the rule's handler with the DecodedInstruction that its Decode makes, operand bytes in `op1`
and `op2` (log 5), and its meaning, the cycle of the two. -/

namespace Sys2Proof.Machine

/-- Decode and handler of `NOP` (R309). -/
def decodedNop : Decoded :=
  { handler := handleNop, di := { opcode := .nop, mode := .register } }

/-- `NOP`: no effect (R309). -/
def execNop (s : State) : Host.Outcome State Fault Refusal := decodedNop.run s

/-- Decode and handler of `INC ss` (R302). -/
def decodedIncSs (ss : Reg16) : Decoded :=
  { handler := handleInc16,
    di := { opcode := .inc, mode := .registerPair, src := some (.r16 ss), dst := some (.r16 ss) } }

/-- `INC ss`: ss <- ss + 1 (R302). -/
def execIncSs (ss : Reg16) (s : State) : Host.Outcome State Fault Refusal := (decodedIncSs ss).run s

/-- Decode and handler of `DEC ss` (R303). -/
def decodedDecSs (ss : Reg16) : Decoded :=
  { handler := handleDec16,
    di := { opcode := .dec, mode := .registerPair, src := some (.r16 ss), dst := some (.r16 ss) } }

/-- `DEC ss`: ss <- ss - 1 (R303). -/
def execDecSs (ss : Reg16) (s : State) : Host.Outcome State Fault Refusal := (decodedDecSs ss).run s

/-- Decode and handler of `ADD HL,ss` (R301). -/
def decodedAddHlSs (ss : Reg16) : Decoded :=
  { handler := handleAdd16,
    di := { opcode := .add, mode := .registerPair, src := some (.r16 ss), dst := some (.r16 .hl) } }

/-- `ADD HL,ss`: HL <- HL + ss (R301). -/
def execAddHlSs (ss : Reg16) (s : State) : Host.Outcome State Fault Refusal := (decodedAddHlSs ss).run s

/-- Decode and handler of `DAA` (R305). -/
def decodedDaa : Decoded :=
  { handler := handleDaa,
    di := { opcode := .daa, mode := .register, src := some (.r8 .a), dst := some (.r8 .a) } }

/-- `DAA`: decimal adjust A (R305). -/
def execDaa (s : State) : Host.Outcome State Fault Refusal := decodedDaa.run s

/-- Decode and handler of `CPL` (R306). -/
def decodedCpl : Decoded :=
  { handler := handleCpl,
    di := { opcode := .cpl, mode := .register, src := some (.r8 .a), dst := some (.r8 .a) } }

/-- `CPL`: A <- ~A (R306). -/
def execCpl (s : State) : Host.Outcome State Fault Refusal := decodedCpl.run s

/-- Decode and handler of `SCF` (R307). -/
def decodedScf : Decoded :=
  { handler := handleScf, di := { opcode := .scf, mode := .register } }

/-- `SCF`: CY <- 1 (R307). -/
def execScf (s : State) : Host.Outcome State Fault Refusal := decodedScf.run s

/-- Decode and handler of `CCF` (R308). -/
def decodedCcf : Decoded :=
  { handler := handleCcf, di := { opcode := .ccf, mode := .register } }

/-- `CCF`: CY <- 1 - CY (R308). -/
def execCcf (s : State) : Host.Outcome State Fault Refusal := decodedCcf.run s

/-- Decode and handler of `ADD SP,e` (R304). -/
def decodedAddSpE (e : Byte) : Decoded :=
  { handler := handleAddDisplacement,
    di := { opcode := .add, mode := .singleImmediatePair, src := some (.r16 .sp), dst := some (.r16 .sp),
            op1 := e } }

/-- `ADD SP,e`: SP <- SP + e (R304). -/
def execAddSpE (e : Byte) (s : State) : Host.Outcome State Fault Refusal := (decodedAddSpE e).run s

end Sys2Proof.Machine
end

