-- ==== Sys2Proof/Machine/Alu8.lean ====
section
/-! DEFINITION. The meanings of 8-bit arithmetic and logic (spec/43_alu8.md): for each the rule's handler
with the DecodedInstruction that its Decode makes, operand bytes in `op1` and `op2` (log 5), and its
meaning, the cycle of the two. -/

namespace Sys2Proof.Machine

/-- Decode and handler of `INC r` (R285). -/
def decodedIncR (r : Reg8) : Decoded :=
  { handler := handleInc8,
    di := { opcode := .inc, mode := .register, src := some (.r8 r), dst := some (.r8 r) } }

/-- `INC r`: r <- r + 1 (R285). -/
def execIncR (r : Reg8) (s : State) : Host.Outcome State Fault Refusal := (decodedIncR r).run s

/-- Decode and handler of `INC (HL)` (R286). -/
def decodedIncIndHl : Decoded :=
  { handler := handleInc8,
    di := { opcode := .inc, mode := .registerIndirectSourceAndDestination, src := some (.r16 .hl),
            dst := some (.r16 .hl) } }

/-- `INC (HL)`: [HL] <- [HL] + 1 (R286). -/
def execIncIndHl (s : State) : Host.Outcome State Fault Refusal := decodedIncIndHl.run s

/-- Decode and handler of `DEC r` (R287). -/
def decodedDecR (r : Reg8) : Decoded :=
  { handler := handleDec8,
    di := { opcode := .dec, mode := .register, src := some (.r8 r), dst := some (.r8 r) } }

/-- `DEC r`: r <- r - 1 (R287). -/
def execDecR (r : Reg8) (s : State) : Host.Outcome State Fault Refusal := (decodedDecR r).run s

/-- Decode and handler of `DEC (HL)` (R288). -/
def decodedDecIndHl : Decoded :=
  { handler := handleDec8,
    di := { opcode := .dec, mode := .registerIndirectSourceAndDestination, src := some (.r16 .hl),
            dst := some (.r16 .hl) } }

/-- `DEC (HL)`: [HL] <- [HL] - 1 (R288). -/
def execDecIndHl (s : State) : Host.Outcome State Fault Refusal := decodedDecIndHl.run s

/-- Decode and handler of `ADD A,r` (R261). -/
def decodedAddAR (r : Reg8) : Decoded :=
  { handler := handleAlu8 .add,
    di := { opcode := .add, mode := .register, src := some (.r8 r), dst := some (.r8 .a) } }

/-- `ADD A,r`: ADD with r (R261). -/
def execAddAR (r : Reg8) (s : State) : Host.Outcome State Fault Refusal := (decodedAddAR r).run s

/-- Decode and handler of `ADD A,(HL)` (R262). -/
def decodedAddAIndHl : Decoded :=
  { handler := handleAlu8 .add,
    di := { opcode := .add, mode := .registerIndirectSource, src := some (.r16 .hl),
            dst := some (.r8 .a) } }

/-- `ADD A,(HL)`: ADD with [HL] (R262). -/
def execAddAIndHl (s : State) : Host.Outcome State Fault Refusal := decodedAddAIndHl.run s

/-- Decode and handler of `ADD A,n` (R263). -/
def decodedAddAN (n : Byte) : Decoded :=
  { handler := handleAlu8 .add,
    di := { opcode := .add, mode := .immediate, dst := some (.r8 .a), op1 := n } }

/-- `ADD A,n`: ADD with n (R263). -/
def execAddAN (n : Byte) (s : State) : Host.Outcome State Fault Refusal := (decodedAddAN n).run s

/-- Decode and handler of `ADC A,r` (R264). -/
def decodedAdcAR (r : Reg8) : Decoded :=
  { handler := handleAlu8 .adc,
    di := { opcode := .adc, mode := .register, src := some (.r8 r), dst := some (.r8 .a) } }

/-- `ADC A,r`: ADC with r (R264). -/
def execAdcAR (r : Reg8) (s : State) : Host.Outcome State Fault Refusal := (decodedAdcAR r).run s

/-- Decode and handler of `ADC A,(HL)` (R265). -/
def decodedAdcAIndHl : Decoded :=
  { handler := handleAlu8 .adc,
    di := { opcode := .adc, mode := .registerIndirectSource, src := some (.r16 .hl),
            dst := some (.r8 .a) } }

/-- `ADC A,(HL)`: ADC with [HL] (R265). -/
def execAdcAIndHl (s : State) : Host.Outcome State Fault Refusal := decodedAdcAIndHl.run s

/-- Decode and handler of `ADC A,n` (R266). -/
def decodedAdcAN (n : Byte) : Decoded :=
  { handler := handleAlu8 .adc,
    di := { opcode := .adc, mode := .immediate, dst := some (.r8 .a), op1 := n } }

/-- `ADC A,n`: ADC with n (R266). -/
def execAdcAN (n : Byte) (s : State) : Host.Outcome State Fault Refusal := (decodedAdcAN n).run s

/-- Decode and handler of `SUB r` (R267). -/
def decodedSubR (r : Reg8) : Decoded :=
  { handler := handleAlu8 .sub,
    di := { opcode := .sub, mode := .register, src := some (.r8 r), dst := some (.r8 .a) } }

/-- `SUB r`: SUB with r (R267). -/
def execSubR (r : Reg8) (s : State) : Host.Outcome State Fault Refusal := (decodedSubR r).run s

/-- Decode and handler of `SUB (HL)` (R268). -/
def decodedSubIndHl : Decoded :=
  { handler := handleAlu8 .sub,
    di := { opcode := .sub, mode := .registerIndirectSource, src := some (.r16 .hl),
            dst := some (.r8 .a) } }

/-- `SUB (HL)`: SUB with [HL] (R268). -/
def execSubIndHl (s : State) : Host.Outcome State Fault Refusal := decodedSubIndHl.run s

/-- Decode and handler of `SUB n` (R269). -/
def decodedSubN (n : Byte) : Decoded :=
  { handler := handleAlu8 .sub,
    di := { opcode := .sub, mode := .immediate, dst := some (.r8 .a), op1 := n } }

/-- `SUB n`: SUB with n (R269). -/
def execSubN (n : Byte) (s : State) : Host.Outcome State Fault Refusal := (decodedSubN n).run s

/-- Decode and handler of `SBC A,r` (R270). -/
def decodedSbcAR (r : Reg8) : Decoded :=
  { handler := handleAlu8 .sbc,
    di := { opcode := .sbc, mode := .register, src := some (.r8 r), dst := some (.r8 .a) } }

/-- `SBC A,r`: SBC with r (R270). -/
def execSbcAR (r : Reg8) (s : State) : Host.Outcome State Fault Refusal := (decodedSbcAR r).run s

/-- Decode and handler of `SBC A,(HL)` (R271). -/
def decodedSbcAIndHl : Decoded :=
  { handler := handleAlu8 .sbc,
    di := { opcode := .sbc, mode := .registerIndirectSource, src := some (.r16 .hl),
            dst := some (.r8 .a) } }

/-- `SBC A,(HL)`: SBC with [HL] (R271). -/
def execSbcAIndHl (s : State) : Host.Outcome State Fault Refusal := decodedSbcAIndHl.run s

/-- Decode and handler of `SBC A,n` (R272). -/
def decodedSbcAN (n : Byte) : Decoded :=
  { handler := handleAlu8 .sbc,
    di := { opcode := .sbc, mode := .immediate, dst := some (.r8 .a), op1 := n } }

/-- `SBC A,n`: SBC with n (R272). -/
def execSbcAN (n : Byte) (s : State) : Host.Outcome State Fault Refusal := (decodedSbcAN n).run s

/-- Decode and handler of `AND r` (R273). -/
def decodedAndR (r : Reg8) : Decoded :=
  { handler := handleAlu8 .and,
    di := { opcode := .and, mode := .register, src := some (.r8 r), dst := some (.r8 .a) } }

/-- `AND r`: AND with r (R273). -/
def execAndR (r : Reg8) (s : State) : Host.Outcome State Fault Refusal := (decodedAndR r).run s

/-- Decode and handler of `AND (HL)` (R274). -/
def decodedAndIndHl : Decoded :=
  { handler := handleAlu8 .and,
    di := { opcode := .and, mode := .registerIndirectSource, src := some (.r16 .hl),
            dst := some (.r8 .a) } }

/-- `AND (HL)`: AND with [HL] (R274). -/
def execAndIndHl (s : State) : Host.Outcome State Fault Refusal := decodedAndIndHl.run s

/-- Decode and handler of `AND n` (R275). -/
def decodedAndN (n : Byte) : Decoded :=
  { handler := handleAlu8 .and,
    di := { opcode := .and, mode := .immediate, dst := some (.r8 .a), op1 := n } }

/-- `AND n`: AND with n (R275). -/
def execAndN (n : Byte) (s : State) : Host.Outcome State Fault Refusal := (decodedAndN n).run s

/-- Decode and handler of `XOR r` (R276). -/
def decodedXorR (r : Reg8) : Decoded :=
  { handler := handleAlu8 .xor,
    di := { opcode := .xor, mode := .register, src := some (.r8 r), dst := some (.r8 .a) } }

/-- `XOR r`: XOR with r (R276). -/
def execXorR (r : Reg8) (s : State) : Host.Outcome State Fault Refusal := (decodedXorR r).run s

/-- Decode and handler of `XOR (HL)` (R277). -/
def decodedXorIndHl : Decoded :=
  { handler := handleAlu8 .xor,
    di := { opcode := .xor, mode := .registerIndirectSource, src := some (.r16 .hl),
            dst := some (.r8 .a) } }

/-- `XOR (HL)`: XOR with [HL] (R277). -/
def execXorIndHl (s : State) : Host.Outcome State Fault Refusal := decodedXorIndHl.run s

/-- Decode and handler of `XOR n` (R278). -/
def decodedXorN (n : Byte) : Decoded :=
  { handler := handleAlu8 .xor,
    di := { opcode := .xor, mode := .immediate, dst := some (.r8 .a), op1 := n } }

/-- `XOR n`: XOR with n (R278). -/
def execXorN (n : Byte) (s : State) : Host.Outcome State Fault Refusal := (decodedXorN n).run s

/-- Decode and handler of `OR r` (R279). -/
def decodedOrR (r : Reg8) : Decoded :=
  { handler := handleAlu8 .or,
    di := { opcode := .or, mode := .register, src := some (.r8 r), dst := some (.r8 .a) } }

/-- `OR r`: OR with r (R279). -/
def execOrR (r : Reg8) (s : State) : Host.Outcome State Fault Refusal := (decodedOrR r).run s

/-- Decode and handler of `OR (HL)` (R280). -/
def decodedOrIndHl : Decoded :=
  { handler := handleAlu8 .or,
    di := { opcode := .or, mode := .registerIndirectSource, src := some (.r16 .hl),
            dst := some (.r8 .a) } }

/-- `OR (HL)`: OR with [HL] (R280). -/
def execOrIndHl (s : State) : Host.Outcome State Fault Refusal := decodedOrIndHl.run s

/-- Decode and handler of `OR n` (R281). -/
def decodedOrN (n : Byte) : Decoded :=
  { handler := handleAlu8 .or, di := { opcode := .or, mode := .immediate, dst := some (.r8 .a), op1 := n } }

/-- `OR n`: OR with n (R281). -/
def execOrN (n : Byte) (s : State) : Host.Outcome State Fault Refusal := (decodedOrN n).run s

/-- Decode and handler of `CP r` (R282). -/
def decodedCpR (r : Reg8) : Decoded :=
  { handler := handleAlu8 .cp,
    di := { opcode := .cp, mode := .register, src := some (.r8 r), dst := some (.r8 .a) } }

/-- `CP r`: CP with r (R282). -/
def execCpR (r : Reg8) (s : State) : Host.Outcome State Fault Refusal := (decodedCpR r).run s

/-- Decode and handler of `CP (HL)` (R283). -/
def decodedCpIndHl : Decoded :=
  { handler := handleAlu8 .cp,
    di := { opcode := .cp, mode := .registerIndirectSource, src := some (.r16 .hl),
            dst := some (.r8 .a) } }

/-- `CP (HL)`: CP with [HL] (R283). -/
def execCpIndHl (s : State) : Host.Outcome State Fault Refusal := decodedCpIndHl.run s

/-- Decode and handler of `CP n` (R284). -/
def decodedCpN (n : Byte) : Decoded :=
  { handler := handleAlu8 .cp, di := { opcode := .cp, mode := .immediate, dst := some (.r8 .a), op1 := n } }

/-- `CP n`: CP with n (R284). -/
def execCpN (n : Byte) (s : State) : Host.Outcome State Fault Refusal := (decodedCpN n).run s

end Sys2Proof.Machine
end

