-- ==== Sys2Proof/Machine/Control.lean ====
section
/-! DEFINITION. The meanings of control transfer (spec/46_control_transfer.md): for each the rule's handler
with the DecodedInstruction that its Decode makes, operand bytes in `op1` and `op2` (log 5), and its
meaning, the cycle of the two. -/

namespace Sys2Proof.Machine

/-- Decode and handler of `JR e` (R355). -/
def decodedJr (e : Byte) : Decoded :=
  { handler := handleJr,
    di := { opcode := .jr, mode := .immediate, extra := unconditionalExtra, op1 := e } }

/-- `JR e`: PC <- PC + e (R355). -/
def execJr (e : Byte) (s : State) : Host.Outcome State Fault Refusal := (decodedJr e).run s

/-- Decode and handler of `JR cc,e` (R356). -/
def decodedJrCc (cc : Cond) (e : Byte) : Decoded :=
  { handler := handleJr, di := { opcode := .jr, mode := .immediate, extra := cc.code, op1 := e } }

/-- `JR cc,e`: PC <- PC + e when cc holds (R356). -/
def execJrCc (cc : Cond) (e : Byte) (s : State) : Host.Outcome State Fault Refusal :=
  (decodedJrCc cc e).run s

/-- Decode and handler of `RET cc` (R366). -/
def decodedRetCc (cc : Cond) : Decoded :=
  { handler := handleRet,
    di := { opcode := .ret, mode := .registerIndirectSourcePair, src := some (.r16 .sp),
            extra := cc.code } }

/-- `RET cc`: pop PC when cc holds (R366). -/
def execRetCc (cc : Cond) (s : State) : Host.Outcome State Fault Refusal := (decodedRetCc cc).run s

/-- Decode and handler of `JP cc,nn` (R353). -/
def decodedJpCc (cc : Cond) (nn : Word) : Decoded :=
  { handler := handleJp,
    di := { opcode := .jp, mode := .immediatePair, extra := cc.code, op1 := lo nn, op2 := hi nn } }

/-- `JP cc,nn`: PC <- nn when cc holds (R353). -/
def execJpCc (cc : Cond) (nn : Word) (s : State) : Host.Outcome State Fault Refusal :=
  (decodedJpCc cc nn).run s

/-- Decode and handler of `JP nn` (R352). -/
def decodedJp (nn : Word) : Decoded :=
  { handler := handleJp,
    di := { opcode := .jp, mode := .immediatePair, extra := unconditionalExtra, op1 := lo nn,
            op2 := hi nn } }

/-- `JP nn`: PC <- nn (R352). -/
def execJp (nn : Word) (s : State) : Host.Outcome State Fault Refusal := (decodedJp nn).run s

/-- Decode and handler of `CALL cc,nn` (R361). -/
def decodedCallCc (cc : Cond) (nn : Word) : Decoded :=
  { handler := handleCall,
    di := { opcode := .call, mode := .subRoutineCall, dst := some (.r16 .sp), extra := cc.code,
            op1 := lo nn, op2 := hi nn } }

/-- `CALL cc,nn`: push PC, PC <- nn, when cc holds (R361). -/
def execCallCc (cc : Cond) (nn : Word) (s : State) : Host.Outcome State Fault Refusal :=
  (decodedCallCc cc nn).run s

/-- Decode and handler of `RST t` (R372). -/
def decodedRst (t : BitVec 3) : Decoded :=
  { handler := handleRst,
    di := { opcode := .rst, mode := .registerIndirectDestinationPair, dst := some (.r16 .sp),
            extra := (restartExtra t) } }

/-- `RST t`: push PC, PC <- 8 * t (R372). -/
def execRst (t : BitVec 3) (s : State) : Host.Outcome State Fault Refusal := (decodedRst t).run s

/-- Decode and handler of `RET` (R365). -/
def decodedRet : Decoded :=
  { handler := handleRet,
    di := { opcode := .ret, mode := .registerIndirectSourcePair, src := some (.r16 .sp),
            extra := unconditionalExtra } }

/-- `RET`: pop PC (R365). -/
def execRet (s : State) : Host.Outcome State Fault Refusal := decodedRet.run s

/-- Decode and handler of `CALL nn` (R360). -/
def decodedCall (nn : Word) : Decoded :=
  { handler := handleCall,
    di := { opcode := .call, mode := .subRoutineCall, dst := some (.r16 .sp), extra := unconditionalExtra,
            op1 := lo nn, op2 := hi nn } }

/-- `CALL nn`: push PC, PC <- nn (R360). -/
def execCall (nn : Word) (s : State) : Host.Outcome State Fault Refusal := (decodedCall nn).run s

/-- Decode and handler of `RETI` (R367). -/
def decodedReti : Decoded :=
  { handler := handleReti,
    di := { opcode := .reti, mode := .registerIndirectSourcePair, src := some (.r16 .sp) } }

/-- `RETI`: pop PC, raises sig.cis (R367). -/
def execReti (s : State) : Host.Outcome State Fault Refusal := decodedReti.run s

/-- Decode and handler of `JP (HL)` (R354). -/
def decodedJpHl : Decoded :=
  { handler := handleJp,
    di := { opcode := .jp, mode := .registerPair, src := some (.r16 .hl), extra := unconditionalExtra } }

/-- `JP (HL)`: PC <- HL (R354). -/
def execJpHl (s : State) : Host.Outcome State Fault Refusal := decodedJpHl.run s

end Sys2Proof.Machine
end

