-- ==== Sys2Proof/Machine/Index.lean ====
section
/-! DEFINITION. The meanings of the index-register instructions of pages 0xDD and 0xFD (spec/48_index.md):
for each the rule's handler with the DecodedInstruction that its Decode makes, operand bytes in `op1`
and `op2` (log 5), and its meaning, the cycle of the two. -/

namespace Sys2Proof.Machine

/-- Decode and handler of `LD IX,nn` (R401). -/
def decodedLdIxNn (nn : Word) : Decoded :=
  { handler := handleLdImmediatePair,
    di := { opcode := .ld, mode := .immediatePair, dst := some (.r16 .ix), op1 := lo nn, op2 := hi nn } }

/-- `LD IX,nn`: IX <- nn (R401). -/
def execLdIxNn (nn : Word) (s : State) : Host.Outcome State Fault Refusal := (decodedLdIxNn nn).run s

/-- Decode and handler of `LD r,(IX+d)` (R402). -/
def decodedLdRIndIx (r : Reg8) (d : Byte) : Decoded :=
  { handler := handleLd8,
    di := { opcode := .ld, mode := .registerIndexedSource, src := some (.r16 .ix), dst := some (.r8 r),
            op1 := d } }

/-- `LD r,(IX+d)`: r <- [IX + d] (R402). -/
def execLdRIndIx (r : Reg8) (d : Byte) (s : State) : Host.Outcome State Fault Refusal :=
  (decodedLdRIndIx r d).run s

/-- Decode and handler of `LD (IX+d),r` (R403). -/
def decodedLdIndIxR (d : Byte) (r : Reg8) : Decoded :=
  { handler := handleLd8,
    di := { opcode := .ld, mode := .registerIndexedDestination, src := some (.r8 r), dst := some (.r16 .ix),
            op1 := d } }

/-- `LD (IX+d),r`: [IX + d] <- r (R403). -/
def execLdIndIxR (d : Byte) (r : Reg8) (s : State) : Host.Outcome State Fault Refusal :=
  (decodedLdIndIxR d r).run s

/-- Decode and handler of `ADD A,(IX+d)` (R404). -/
def decodedAddAIndIx (d : Byte) : Decoded :=
  { handler := handleAlu8 .add,
    di := { opcode := .add, mode := .registerIndexedSource, src := some (.r16 .ix), dst := some (.r8 .a),
            op1 := d } }

/-- `ADD A,(IX+d)`: ADD with [IX + d] (R404). -/
def execAddAIndIx (d : Byte) (s : State) : Host.Outcome State Fault Refusal := (decodedAddAIndIx d).run s

/-- Decode and handler of `ADC A,(IX+d)` (R405). -/
def decodedAdcAIndIx (d : Byte) : Decoded :=
  { handler := handleAlu8 .adc,
    di := { opcode := .adc, mode := .registerIndexedSource, src := some (.r16 .ix), dst := some (.r8 .a),
            op1 := d } }

/-- `ADC A,(IX+d)`: ADC with [IX + d] (R405). -/
def execAdcAIndIx (d : Byte) (s : State) : Host.Outcome State Fault Refusal := (decodedAdcAIndIx d).run s

/-- Decode and handler of `SUB (IX+d)` (R406). -/
def decodedSubIndIx (d : Byte) : Decoded :=
  { handler := handleAlu8 .sub,
    di := { opcode := .sub, mode := .registerIndexedSource, src := some (.r16 .ix), dst := some (.r8 .a),
            op1 := d } }

/-- `SUB (IX+d)`: SUB with [IX + d] (R406). -/
def execSubIndIx (d : Byte) (s : State) : Host.Outcome State Fault Refusal := (decodedSubIndIx d).run s

/-- Decode and handler of `SBC A,(IX+d)` (R407). -/
def decodedSbcAIndIx (d : Byte) : Decoded :=
  { handler := handleAlu8 .sbc,
    di := { opcode := .sbc, mode := .registerIndexedSource, src := some (.r16 .ix), dst := some (.r8 .a),
            op1 := d } }

/-- `SBC A,(IX+d)`: SBC with [IX + d] (R407). -/
def execSbcAIndIx (d : Byte) (s : State) : Host.Outcome State Fault Refusal := (decodedSbcAIndIx d).run s

/-- Decode and handler of `AND (IX+d)` (R408). -/
def decodedAndIndIx (d : Byte) : Decoded :=
  { handler := handleAlu8 .and,
    di := { opcode := .and, mode := .registerIndexedSource, src := some (.r16 .ix), dst := some (.r8 .a),
            op1 := d } }

/-- `AND (IX+d)`: AND with [IX + d] (R408). -/
def execAndIndIx (d : Byte) (s : State) : Host.Outcome State Fault Refusal := (decodedAndIndIx d).run s

/-- Decode and handler of `XOR (IX+d)` (R409). -/
def decodedXorIndIx (d : Byte) : Decoded :=
  { handler := handleAlu8 .xor,
    di := { opcode := .xor, mode := .registerIndexedSource, src := some (.r16 .ix), dst := some (.r8 .a),
            op1 := d } }

/-- `XOR (IX+d)`: XOR with [IX + d] (R409). -/
def execXorIndIx (d : Byte) (s : State) : Host.Outcome State Fault Refusal := (decodedXorIndIx d).run s

/-- Decode and handler of `OR (IX+d)` (R410). -/
def decodedOrIndIx (d : Byte) : Decoded :=
  { handler := handleAlu8 .or,
    di := { opcode := .or, mode := .registerIndexedSource, src := some (.r16 .ix), dst := some (.r8 .a),
            op1 := d } }

/-- `OR (IX+d)`: OR with [IX + d] (R410). -/
def execOrIndIx (d : Byte) (s : State) : Host.Outcome State Fault Refusal := (decodedOrIndIx d).run s

/-- Decode and handler of `CP (IX+d)` (R411). -/
def decodedCpIndIx (d : Byte) : Decoded :=
  { handler := handleAlu8 .cp,
    di := { opcode := .cp, mode := .registerIndexedSource, src := some (.r16 .ix), dst := some (.r8 .a),
            op1 := d } }

/-- `CP (IX+d)`: CP with [IX + d] (R411). -/
def execCpIndIx (d : Byte) (s : State) : Host.Outcome State Fault Refusal := (decodedCpIndIx d).run s

/-- Decode and handler of `INC IX` (R412). -/
def decodedIncIx : Decoded :=
  { handler := handleInc16,
    di := { opcode := .inc, mode := .registerPair, src := some (.r16 .ix), dst := some (.r16 .ix) } }

/-- `INC IX`: IX <- IX + 1 (R412). -/
def execIncIx (s : State) : Host.Outcome State Fault Refusal := decodedIncIx.run s

/-- Decode and handler of `DEC IX` (R413). -/
def decodedDecIx : Decoded :=
  { handler := handleDec16,
    di := { opcode := .dec, mode := .registerPair, src := some (.r16 .ix), dst := some (.r16 .ix) } }

/-- `DEC IX`: IX <- IX - 1 (R413). -/
def execDecIx (s : State) : Host.Outcome State Fault Refusal := decodedDecIx.run s

/-- Decode and handler of `ADD IX,pp` (R414). -/
def decodedAddIxPp (pp : Reg16) : Decoded :=
  { handler := handleAdd16,
    di := { opcode := .add, mode := .registerPair, src := some (.r16 pp), dst := some (.r16 .ix) } }

/-- `ADD IX,pp`: IX <- IX + pp (R414). -/
def execAddIxPp (pp : Reg16) (s : State) : Host.Outcome State Fault Refusal := (decodedAddIxPp pp).run s

/-- Decode and handler of `PUSH IX` (R415). -/
def decodedPushIx : Decoded :=
  { handler := handleSplitPair,
    di := { opcode := .push, mode := .registerIndirectDestinationPair, src := some (.r16 .ix),
            dst := some (.r16 .sp) } }

/-- `PUSH IX`: push IX (R415). -/
def execPushIx (s : State) : Host.Outcome State Fault Refusal := decodedPushIx.run s

/-- Decode and handler of `POP IX` (R416). -/
def decodedPopIx : Decoded :=
  { handler := handlePop,
    di := { opcode := .pop, mode := .registerIndirectSourcePair, src := some (.r16 .sp),
            dst := some (.r16 .ix) } }

/-- `POP IX`: IX <- popped pair (R416). -/
def execPopIx (s : State) : Host.Outcome State Fault Refusal := decodedPopIx.run s

/-- Decode and handler of `LD SP,IX` (R417). -/
def decodedLdSpIx : Decoded :=
  { handler := handleLdRegisterPair,
    di := { opcode := .ld, mode := .registerPair, src := some (.r16 .ix), dst := some (.r16 .sp) } }

/-- `LD SP,IX`: SP <- IX (R417). -/
def execLdSpIx (s : State) : Host.Outcome State Fault Refusal := decodedLdSpIx.run s

/-- Decode and handler of `JP (IX)` (R418). -/
def decodedJpIx : Decoded :=
  { handler := handleJp,
    di := { opcode := .jp, mode := .registerPair, src := some (.r16 .ix), extra := unconditionalExtra } }

/-- `JP (IX)`: PC <- IX (R418). -/
def execJpIx (s : State) : Host.Outcome State Fault Refusal := decodedJpIx.run s

/-- Decode and handler of `LD IY,nn` (R401). -/
def decodedLdIyNn (nn : Word) : Decoded :=
  { handler := handleLdImmediatePair,
    di := { opcode := .ld, mode := .immediatePair, dst := some (.r16 .iy), op1 := lo nn, op2 := hi nn } }

/-- `LD IY,nn`: IY <- nn (R401). -/
def execLdIyNn (nn : Word) (s : State) : Host.Outcome State Fault Refusal := (decodedLdIyNn nn).run s

/-- Decode and handler of `LD r,(IY+d)` (R402). -/
def decodedLdRIndIy (r : Reg8) (d : Byte) : Decoded :=
  { handler := handleLd8,
    di := { opcode := .ld, mode := .registerIndexedSource, src := some (.r16 .iy), dst := some (.r8 r),
            op1 := d } }

/-- `LD r,(IY+d)`: r <- [IY + d] (R402). -/
def execLdRIndIy (r : Reg8) (d : Byte) (s : State) : Host.Outcome State Fault Refusal :=
  (decodedLdRIndIy r d).run s

/-- Decode and handler of `LD (IY+d),r` (R403). -/
def decodedLdIndIyR (d : Byte) (r : Reg8) : Decoded :=
  { handler := handleLd8,
    di := { opcode := .ld, mode := .registerIndexedDestination, src := some (.r8 r), dst := some (.r16 .iy),
            op1 := d } }

/-- `LD (IY+d),r`: [IY + d] <- r (R403). -/
def execLdIndIyR (d : Byte) (r : Reg8) (s : State) : Host.Outcome State Fault Refusal :=
  (decodedLdIndIyR d r).run s

/-- Decode and handler of `ADD A,(IY+d)` (R404). -/
def decodedAddAIndIy (d : Byte) : Decoded :=
  { handler := handleAlu8 .add,
    di := { opcode := .add, mode := .registerIndexedSource, src := some (.r16 .iy), dst := some (.r8 .a),
            op1 := d } }

/-- `ADD A,(IY+d)`: ADD with [IY + d] (R404). -/
def execAddAIndIy (d : Byte) (s : State) : Host.Outcome State Fault Refusal := (decodedAddAIndIy d).run s

/-- Decode and handler of `ADC A,(IY+d)` (R405). -/
def decodedAdcAIndIy (d : Byte) : Decoded :=
  { handler := handleAlu8 .adc,
    di := { opcode := .adc, mode := .registerIndexedSource, src := some (.r16 .iy), dst := some (.r8 .a),
            op1 := d } }

/-- `ADC A,(IY+d)`: ADC with [IY + d] (R405). -/
def execAdcAIndIy (d : Byte) (s : State) : Host.Outcome State Fault Refusal := (decodedAdcAIndIy d).run s

/-- Decode and handler of `SUB (IY+d)` (R406). -/
def decodedSubIndIy (d : Byte) : Decoded :=
  { handler := handleAlu8 .sub,
    di := { opcode := .sub, mode := .registerIndexedSource, src := some (.r16 .iy), dst := some (.r8 .a),
            op1 := d } }

/-- `SUB (IY+d)`: SUB with [IY + d] (R406). -/
def execSubIndIy (d : Byte) (s : State) : Host.Outcome State Fault Refusal := (decodedSubIndIy d).run s

/-- Decode and handler of `SBC A,(IY+d)` (R407). -/
def decodedSbcAIndIy (d : Byte) : Decoded :=
  { handler := handleAlu8 .sbc,
    di := { opcode := .sbc, mode := .registerIndexedSource, src := some (.r16 .iy), dst := some (.r8 .a),
            op1 := d } }

/-- `SBC A,(IY+d)`: SBC with [IY + d] (R407). -/
def execSbcAIndIy (d : Byte) (s : State) : Host.Outcome State Fault Refusal := (decodedSbcAIndIy d).run s

/-- Decode and handler of `AND (IY+d)` (R408). -/
def decodedAndIndIy (d : Byte) : Decoded :=
  { handler := handleAlu8 .and,
    di := { opcode := .and, mode := .registerIndexedSource, src := some (.r16 .iy), dst := some (.r8 .a),
            op1 := d } }

/-- `AND (IY+d)`: AND with [IY + d] (R408). -/
def execAndIndIy (d : Byte) (s : State) : Host.Outcome State Fault Refusal := (decodedAndIndIy d).run s

/-- Decode and handler of `XOR (IY+d)` (R409). -/
def decodedXorIndIy (d : Byte) : Decoded :=
  { handler := handleAlu8 .xor,
    di := { opcode := .xor, mode := .registerIndexedSource, src := some (.r16 .iy), dst := some (.r8 .a),
            op1 := d } }

/-- `XOR (IY+d)`: XOR with [IY + d] (R409). -/
def execXorIndIy (d : Byte) (s : State) : Host.Outcome State Fault Refusal := (decodedXorIndIy d).run s

/-- Decode and handler of `OR (IY+d)` (R410). -/
def decodedOrIndIy (d : Byte) : Decoded :=
  { handler := handleAlu8 .or,
    di := { opcode := .or, mode := .registerIndexedSource, src := some (.r16 .iy), dst := some (.r8 .a),
            op1 := d } }

/-- `OR (IY+d)`: OR with [IY + d] (R410). -/
def execOrIndIy (d : Byte) (s : State) : Host.Outcome State Fault Refusal := (decodedOrIndIy d).run s

/-- Decode and handler of `CP (IY+d)` (R411). -/
def decodedCpIndIy (d : Byte) : Decoded :=
  { handler := handleAlu8 .cp,
    di := { opcode := .cp, mode := .registerIndexedSource, src := some (.r16 .iy), dst := some (.r8 .a),
            op1 := d } }

/-- `CP (IY+d)`: CP with [IY + d] (R411). -/
def execCpIndIy (d : Byte) (s : State) : Host.Outcome State Fault Refusal := (decodedCpIndIy d).run s

/-- Decode and handler of `INC IY` (R412). -/
def decodedIncIy : Decoded :=
  { handler := handleInc16,
    di := { opcode := .inc, mode := .registerPair, src := some (.r16 .iy), dst := some (.r16 .iy) } }

/-- `INC IY`: IY <- IY + 1 (R412). -/
def execIncIy (s : State) : Host.Outcome State Fault Refusal := decodedIncIy.run s

/-- Decode and handler of `DEC IY` (R413). -/
def decodedDecIy : Decoded :=
  { handler := handleDec16,
    di := { opcode := .dec, mode := .registerPair, src := some (.r16 .iy), dst := some (.r16 .iy) } }

/-- `DEC IY`: IY <- IY - 1 (R413). -/
def execDecIy (s : State) : Host.Outcome State Fault Refusal := decodedDecIy.run s

/-- Decode and handler of `ADD IY,pp` (R414). -/
def decodedAddIyPp (pp : Reg16) : Decoded :=
  { handler := handleAdd16,
    di := { opcode := .add, mode := .registerPair, src := some (.r16 pp), dst := some (.r16 .iy) } }

/-- `ADD IY,pp`: IY <- IY + pp (R414). -/
def execAddIyPp (pp : Reg16) (s : State) : Host.Outcome State Fault Refusal := (decodedAddIyPp pp).run s

/-- Decode and handler of `PUSH IY` (R415). -/
def decodedPushIy : Decoded :=
  { handler := handleSplitPair,
    di := { opcode := .push, mode := .registerIndirectDestinationPair, src := some (.r16 .iy),
            dst := some (.r16 .sp) } }

/-- `PUSH IY`: push IY (R415). -/
def execPushIy (s : State) : Host.Outcome State Fault Refusal := decodedPushIy.run s

/-- Decode and handler of `POP IY` (R416). -/
def decodedPopIy : Decoded :=
  { handler := handlePop,
    di := { opcode := .pop, mode := .registerIndirectSourcePair, src := some (.r16 .sp),
            dst := some (.r16 .iy) } }

/-- `POP IY`: IY <- popped pair (R416). -/
def execPopIy (s : State) : Host.Outcome State Fault Refusal := decodedPopIy.run s

/-- Decode and handler of `LD SP,IY` (R417). -/
def decodedLdSpIy : Decoded :=
  { handler := handleLdRegisterPair,
    di := { opcode := .ld, mode := .registerPair, src := some (.r16 .iy), dst := some (.r16 .sp) } }

/-- `LD SP,IY`: SP <- IY (R417). -/
def execLdSpIy (s : State) : Host.Outcome State Fault Refusal := decodedLdSpIy.run s

/-- Decode and handler of `JP (IY)` (R418). -/
def decodedJpIy : Decoded :=
  { handler := handleJp,
    di := { opcode := .jp, mode := .registerPair, src := some (.r16 .iy), extra := unconditionalExtra } }

/-- `JP (IY)`: PC <- IY (R418). -/
def execJpIy (s : State) : Host.Outcome State Fault Refusal := decodedJpIy.run s

end Sys2Proof.Machine
end

