-- ==== Sys2Proof/Machine/Load16.lean ====
section
/-! DEFINITION. The meanings of 16-bit loads and the stack (spec/42_load16_stack.md): for each the rule's
handler with the DecodedInstruction that its Decode makes, operand bytes in `op1` and `op2` (log 5), and
its meaning, the cycle of the two. -/

namespace Sys2Proof.Machine

/-- Decode and handler of `LD dd,nn` (R241). -/
def decodedLdDdNn (dd : Reg16) (nn : Word) : Decoded :=
  { handler := handleLdImmediatePair,
    di := { opcode := .ld, mode := .immediatePair, dst := some (.r16 dd), op1 := lo nn, op2 := hi nn } }

/-- `LD dd,nn`: dd <- nn (R241). -/
def execLdDdNn (dd : Reg16) (nn : Word) (s : State) : Host.Outcome State Fault Refusal :=
  (decodedLdDdNn dd nn).run s

/-- Decode and handler of `LD (nn),SP` (R243). -/
def decodedLdIndNnSp (nn : Word) : Decoded :=
  { handler := handleSplitPair,
    di := { opcode := .ld, mode := .extendedDestinationPair, src := some (.r16 .sp), op1 := lo nn,
            op2 := hi nn } }

/-- `LD (nn),SP`: [nn], [nn + 1] <- SP (R243). -/
def execLdIndNnSp (nn : Word) (s : State) : Host.Outcome State Fault Refusal := (decodedLdIndNnSp nn).run s

/-- Decode and handler of `POP qq` (R246). -/
def decodedPopQq (qq : Reg16) : Decoded :=
  { handler := handlePop,
    di := { opcode := .pop, mode := .registerIndirectSourcePair, src := some (.r16 .sp),
            dst := some (.r16 qq) } }

/-- `POP qq`: qq <- popped pair (R246). -/
def execPopQq (qq : Reg16) (s : State) : Host.Outcome State Fault Refusal := (decodedPopQq qq).run s

/-- Decode and handler of `PUSH qq` (R245). -/
def decodedPushQq (qq : Reg16) : Decoded :=
  { handler := handleSplitPair,
    di := { opcode := .push, mode := .registerIndirectDestinationPair, src := some (.r16 qq),
            dst := some (.r16 .sp) } }

/-- `PUSH qq`: push qq (R245). -/
def execPushQq (qq : Reg16) (s : State) : Host.Outcome State Fault Refusal := (decodedPushQq qq).run s

/-- Decode and handler of `LD HL,SP+e` (R244). -/
def decodedLdHlSpE (e : Byte) : Decoded :=
  { handler := handleAddDisplacement,
    di := { opcode := .ld, mode := .singleImmediatePair, src := some (.r16 .sp), dst := some (.r16 .hl),
            op1 := e } }

/-- `LD HL,SP+e`: HL <- SP + e (R244). -/
def execLdHlSpE (e : Byte) (s : State) : Host.Outcome State Fault Refusal := (decodedLdHlSpE e).run s

/-- Decode and handler of `LD SP,HL` (R242). -/
def decodedLdSpHl : Decoded :=
  { handler := handleLdRegisterPair,
    di := { opcode := .ld, mode := .registerPair, src := some (.r16 .hl), dst := some (.r16 .sp) } }

/-- `LD SP,HL`: SP <- HL (R242). -/
def execLdSpHl (s : State) : Host.Outcome State Fault Refusal := decodedLdSpHl.run s

end Sys2Proof.Machine
end

