-- ==== Sys2Proof/Machine/Load8.lean ====
section
/-! DEFINITION. The meanings of 8-bit loads (spec/41_load8.md): for each the rule's handler with the
DecodedInstruction that its Decode makes, operand bytes in `op1` and `op2` (log 5), and its meaning, the
cycle of the two. -/

namespace Sys2Proof.Machine

/-- Decode and handler of `LD (BC),A` (R208). -/
def decodedLdIndBcA : Decoded :=
  { handler := handleLd8,
    di := { opcode := .ld, mode := .registerIndirectDestination, src := some (.r8 .a),
            dst := some (.r16 .bc) } }

/-- `LD (BC),A`: [BC] <- A (R208). -/
def execLdIndBcA (s : State) : Host.Outcome State Fault Refusal := decodedLdIndBcA.run s

/-- Decode and handler of `LD (DE),A` (R209). -/
def decodedLdIndDeA : Decoded :=
  { handler := handleLd8,
    di := { opcode := .ld, mode := .registerIndirectDestination, src := some (.r8 .a),
            dst := some (.r16 .de) } }

/-- `LD (DE),A`: [DE] <- A (R209). -/
def execLdIndDeA (s : State) : Host.Outcome State Fault Refusal := decodedLdIndDeA.run s

/-- Decode and handler of `LD (HL+),A` (R212). -/
def decodedLdIndHlIncA : Decoded :=
  { handler := handleLd8,
    di := { opcode := .ld, mode := .registerIndirectDestinationIncrement, src := some (.r8 .a),
            dst := some (.r16 .hl) } }

/-- `LD (HL+),A`: [HL] <- A, then HL + 1 (R212). -/
def execLdIndHlIncA (s : State) : Host.Outcome State Fault Refusal := decodedLdIndHlIncA.run s

/-- Decode and handler of `LD (HL-),A` (R213). -/
def decodedLdIndHlDecA : Decoded :=
  { handler := handleLd8,
    di := { opcode := .ld, mode := .registerIndirectDestinationDecrement, src := some (.r8 .a),
            dst := some (.r16 .hl) } }

/-- `LD (HL-),A`: [HL] <- A, then HL - 1 (R213). -/
def execLdIndHlDecA (s : State) : Host.Outcome State Fault Refusal := decodedLdIndHlDecA.run s

/-- Decode and handler of `LD r,n` (R202). -/
def decodedLdRN (r : Reg8) (n : Byte) : Decoded :=
  { handler := handleLd8, di := { opcode := .ld, mode := .immediate, dst := some (.r8 r), op1 := n } }

/-- `LD r,n`: r <- n (R202). -/
def execLdRN (r : Reg8) (n : Byte) (s : State) : Host.Outcome State Fault Refusal := (decodedLdRN r n).run s

/-- Decode and handler of `LD (HL),n` (R205). -/
def decodedLdIndHlN (n : Byte) : Decoded :=
  { handler := handleLd8,
    di := { opcode := .ld, mode := .immediateRegisterIndirect, dst := some (.r16 .hl), op1 := n } }

/-- `LD (HL),n`: [HL] <- n (R205). -/
def execLdIndHlN (n : Byte) (s : State) : Host.Outcome State Fault Refusal := (decodedLdIndHlN n).run s

/-- Decode and handler of `LD A,(BC)` (R206). -/
def decodedLdAIndBc : Decoded :=
  { handler := handleLd8,
    di := { opcode := .ld, mode := .registerIndirectSource, src := some (.r16 .bc),
            dst := some (.r8 .a) } }

/-- `LD A,(BC)`: A <- [BC] (R206). -/
def execLdAIndBc (s : State) : Host.Outcome State Fault Refusal := decodedLdAIndBc.run s

/-- Decode and handler of `LD A,(DE)` (R207). -/
def decodedLdAIndDe : Decoded :=
  { handler := handleLd8,
    di := { opcode := .ld, mode := .registerIndirectSource, src := some (.r16 .de),
            dst := some (.r8 .a) } }

/-- `LD A,(DE)`: A <- [DE] (R207). -/
def execLdAIndDe (s : State) : Host.Outcome State Fault Refusal := decodedLdAIndDe.run s

/-- Decode and handler of `LD A,(HL+)` (R210). -/
def decodedLdAIndHlInc : Decoded :=
  { handler := handleLd8,
    di := { opcode := .ld, mode := .registerIndirectSourceIncrement, src := some (.r16 .hl),
            dst := some (.r8 .a) } }

/-- `LD A,(HL+)`: A <- [HL], HL + 1 (R210). -/
def execLdAIndHlInc (s : State) : Host.Outcome State Fault Refusal := decodedLdAIndHlInc.run s

/-- Decode and handler of `LD A,(HL-)` (R211). -/
def decodedLdAIndHlDec : Decoded :=
  { handler := handleLd8,
    di := { opcode := .ld, mode := .registerIndirectSourceDecrement, src := some (.r16 .hl),
            dst := some (.r8 .a) } }

/-- `LD A,(HL-)`: A <- [HL], HL - 1 (R211). -/
def execLdAIndHlDec (s : State) : Host.Outcome State Fault Refusal := decodedLdAIndHlDec.run s

/-- Decode and handler of `LD r,r'` (R201). -/
def decodedLdRR (r : Reg8) (r' : Reg8) : Decoded :=
  { handler := handleLd8,
    di := { opcode := .ld, mode := .register, src := some (.r8 r'), dst := some (.r8 r) } }

/-- `LD r,r'`: r <- r' (R201). -/
def execLdRR (r : Reg8) (r' : Reg8) (s : State) : Host.Outcome State Fault Refusal :=
  (decodedLdRR r r').run s

/-- Decode and handler of `LD r,(HL)` (R203). -/
def decodedLdRIndHl (r : Reg8) : Decoded :=
  { handler := handleLd8,
    di := { opcode := .ld, mode := .registerIndirectSource, src := some (.r16 .hl),
            dst := some (.r8 r) } }

/-- `LD r,(HL)`: r <- [HL] (R203). -/
def execLdRIndHl (r : Reg8) (s : State) : Host.Outcome State Fault Refusal := (decodedLdRIndHl r).run s

/-- Decode and handler of `LD (HL),r` (R204). -/
def decodedLdIndHlR (r : Reg8) : Decoded :=
  { handler := handleLd8,
    di := { opcode := .ld, mode := .registerIndirectDestination, src := some (.r8 r),
            dst := some (.r16 .hl) } }

/-- `LD (HL),r`: [HL] <- r (R204). -/
def execLdIndHlR (r : Reg8) (s : State) : Host.Outcome State Fault Refusal := (decodedLdIndHlR r).run s

/-- Decode and handler of `LDH (n),A` (R219). -/
def decodedLdhIndNA (n : Byte) : Decoded :=
  { handler := handleLd8,
    di := { opcode := .ld, mode := .immediateImplicitDestination, src := some (.r8 .a), op1 := n } }

/-- `LDH (n),A`: [0xFF00 | n] <- A (R219). -/
def execLdhIndNA (n : Byte) (s : State) : Host.Outcome State Fault Refusal := (decodedLdhIndNA n).run s

/-- Decode and handler of `LD (C),A` (R217). -/
def decodedLdIndCA : Decoded :=
  { handler := handleLd8,
    di := { opcode := .ld, mode := .registerImplicitDestination, src := some (.r8 .a),
            dst := some (.r8 .c) } }

/-- `LD (C),A`: [0xFF00 | C] <- A (R217). -/
def execLdIndCA (s : State) : Host.Outcome State Fault Refusal := decodedLdIndCA.run s

/-- Decode and handler of `LD (nn),A` (R215). -/
def decodedLdIndNnA (nn : Word) : Decoded :=
  { handler := handleLd8,
    di := { opcode := .ld, mode := .extendedDestination, src := some (.r8 .a), op1 := lo nn,
            op2 := hi nn } }

/-- `LD (nn),A`: [nn] <- A (R215). -/
def execLdIndNnA (nn : Word) (s : State) : Host.Outcome State Fault Refusal := (decodedLdIndNnA nn).run s

/-- Decode and handler of `LDH A,(n)` (R218). -/
def decodedLdhAIndN (n : Byte) : Decoded :=
  { handler := handleLd8,
    di := { opcode := .ld, mode := .immediateImplicitSource, dst := some (.r8 .a), op1 := n } }

/-- `LDH A,(n)`: A <- [0xFF00 | n] (R218). -/
def execLdhAIndN (n : Byte) (s : State) : Host.Outcome State Fault Refusal := (decodedLdhAIndN n).run s

/-- Decode and handler of `LD A,(C)` (R216). -/
def decodedLdAIndC : Decoded :=
  { handler := handleLd8,
    di := { opcode := .ld, mode := .registerImplicitSource, src := some (.r8 .c), dst := some (.r8 .a) } }

/-- `LD A,(C)`: A <- [0xFF00 | C] (R216). -/
def execLdAIndC (s : State) : Host.Outcome State Fault Refusal := decodedLdAIndC.run s

/-- Decode and handler of `LD A,(nn)` (R214). -/
def decodedLdAIndNn (nn : Word) : Decoded :=
  { handler := handleLd8,
    di := { opcode := .ld, mode := .extendedSource, dst := some (.r8 .a), op1 := lo nn, op2 := hi nn } }

/-- `LD A,(nn)`: A <- [nn] (R214). -/
def execLdAIndNn (nn : Word) (s : State) : Host.Outcome State Fault Refusal := (decodedLdAIndNn nn).run s

end Sys2Proof.Machine
end

