-- ==== Sys2Proof/Machine/Rotate.lean ====
section
/-! DEFINITION. The meanings of rotates, shifts and bit operations (spec/45_rotate_shift_bit.md): for each
the rule's handler with the DecodedInstruction that its Decode makes, operand bytes in `op1` and `op2`
(log 5), and its meaning, the cycle of the two. -/

namespace Sys2Proof.Machine

/-- Decode and handler of `RLCA` (R321). -/
def decodedRlca : Decoded :=
  { handler := handleRotateA .rlc,
    di := { opcode := .rlca, mode := .register, src := some (.r8 .a), dst := some (.r8 .a) } }

/-- `RLCA`: A rotated (RLC), Z cleared (R321). -/
def execRlca (s : State) : Host.Outcome State Fault Refusal := decodedRlca.run s

/-- Decode and handler of `RRCA` (R322). -/
def decodedRrca : Decoded :=
  { handler := handleRotateA .rrc,
    di := { opcode := .rrca, mode := .register, src := some (.r8 .a), dst := some (.r8 .a) } }

/-- `RRCA`: A rotated (RRC), Z cleared (R322). -/
def execRrca (s : State) : Host.Outcome State Fault Refusal := decodedRrca.run s

/-- Decode and handler of `RLA` (R323). -/
def decodedRla : Decoded :=
  { handler := handleRotateA .rl,
    di := { opcode := .rla, mode := .register, src := some (.r8 .a), dst := some (.r8 .a) } }

/-- `RLA`: A rotated (RL), Z cleared (R323). -/
def execRla (s : State) : Host.Outcome State Fault Refusal := decodedRla.run s

/-- Decode and handler of `RRA` (R324). -/
def decodedRra : Decoded :=
  { handler := handleRotateA .rr,
    di := { opcode := .rra, mode := .register, src := some (.r8 .a), dst := some (.r8 .a) } }

/-- `RRA`: A rotated (RR), Z cleared (R324). -/
def execRra (s : State) : Host.Outcome State Fault Refusal := decodedRra.run s

/-- Decode and handler of `RLC r` (R325). -/
def decodedRlcR (r : Reg8) : Decoded :=
  { handler := handleShift .rlc,
    di := { opcode := .rlc, mode := .register, src := some (.r8 r), dst := some (.r8 r) } }

/-- `RLC r`: r <- RLC r (R325). -/
def execRlcR (r : Reg8) (s : State) : Host.Outcome State Fault Refusal := (decodedRlcR r).run s

/-- Decode and handler of `RLC (HL)` (R326). -/
def decodedRlcIndHl : Decoded :=
  { handler := handleShift .rlc,
    di := { opcode := .rlc, mode := .registerIndirectSourceAndDestination, src := some (.r16 .hl),
            dst := some (.r16 .hl) } }

/-- `RLC (HL)`: [HL] <- RLC [HL] (R326). -/
def execRlcIndHl (s : State) : Host.Outcome State Fault Refusal := decodedRlcIndHl.run s

/-- Decode and handler of `RRC r` (R327). -/
def decodedRrcR (r : Reg8) : Decoded :=
  { handler := handleShift .rrc,
    di := { opcode := .rrc, mode := .register, src := some (.r8 r), dst := some (.r8 r) } }

/-- `RRC r`: r <- RRC r (R327). -/
def execRrcR (r : Reg8) (s : State) : Host.Outcome State Fault Refusal := (decodedRrcR r).run s

/-- Decode and handler of `RRC (HL)` (R328). -/
def decodedRrcIndHl : Decoded :=
  { handler := handleShift .rrc,
    di := { opcode := .rrc, mode := .registerIndirectSourceAndDestination, src := some (.r16 .hl),
            dst := some (.r16 .hl) } }

/-- `RRC (HL)`: [HL] <- RRC [HL] (R328). -/
def execRrcIndHl (s : State) : Host.Outcome State Fault Refusal := decodedRrcIndHl.run s

/-- Decode and handler of `RL r` (R329). -/
def decodedRlR (r : Reg8) : Decoded :=
  { handler := handleShift .rl,
    di := { opcode := .rl, mode := .register, src := some (.r8 r), dst := some (.r8 r) } }

/-- `RL r`: r <- RL r (R329). -/
def execRlR (r : Reg8) (s : State) : Host.Outcome State Fault Refusal := (decodedRlR r).run s

/-- Decode and handler of `RL (HL)` (R330). -/
def decodedRlIndHl : Decoded :=
  { handler := handleShift .rl,
    di := { opcode := .rl, mode := .registerIndirectSourceAndDestination, src := some (.r16 .hl),
            dst := some (.r16 .hl) } }

/-- `RL (HL)`: [HL] <- RL [HL] (R330). -/
def execRlIndHl (s : State) : Host.Outcome State Fault Refusal := decodedRlIndHl.run s

/-- Decode and handler of `RR r` (R331). -/
def decodedRrR (r : Reg8) : Decoded :=
  { handler := handleShift .rr,
    di := { opcode := .rr, mode := .register, src := some (.r8 r), dst := some (.r8 r) } }

/-- `RR r`: r <- RR r (R331). -/
def execRrR (r : Reg8) (s : State) : Host.Outcome State Fault Refusal := (decodedRrR r).run s

/-- Decode and handler of `RR (HL)` (R332). -/
def decodedRrIndHl : Decoded :=
  { handler := handleShift .rr,
    di := { opcode := .rr, mode := .registerIndirectSourceAndDestination, src := some (.r16 .hl),
            dst := some (.r16 .hl) } }

/-- `RR (HL)`: [HL] <- RR [HL] (R332). -/
def execRrIndHl (s : State) : Host.Outcome State Fault Refusal := decodedRrIndHl.run s

/-- Decode and handler of `SLA r` (R333). -/
def decodedSlaR (r : Reg8) : Decoded :=
  { handler := handleShift .sla,
    di := { opcode := .sla, mode := .register, src := some (.r8 r), dst := some (.r8 r) } }

/-- `SLA r`: r <- SLA r (R333). -/
def execSlaR (r : Reg8) (s : State) : Host.Outcome State Fault Refusal := (decodedSlaR r).run s

/-- Decode and handler of `SLA (HL)` (R334). -/
def decodedSlaIndHl : Decoded :=
  { handler := handleShift .sla,
    di := { opcode := .sla, mode := .registerIndirectSourceAndDestination, src := some (.r16 .hl),
            dst := some (.r16 .hl) } }

/-- `SLA (HL)`: [HL] <- SLA [HL] (R334). -/
def execSlaIndHl (s : State) : Host.Outcome State Fault Refusal := decodedSlaIndHl.run s

/-- Decode and handler of `SRA r` (R335). -/
def decodedSraR (r : Reg8) : Decoded :=
  { handler := handleShift .sra,
    di := { opcode := .sra, mode := .register, src := some (.r8 r), dst := some (.r8 r) } }

/-- `SRA r`: r <- SRA r (R335). -/
def execSraR (r : Reg8) (s : State) : Host.Outcome State Fault Refusal := (decodedSraR r).run s

/-- Decode and handler of `SRA (HL)` (R336). -/
def decodedSraIndHl : Decoded :=
  { handler := handleShift .sra,
    di := { opcode := .sra, mode := .registerIndirectSourceAndDestination, src := some (.r16 .hl),
            dst := some (.r16 .hl) } }

/-- `SRA (HL)`: [HL] <- SRA [HL] (R336). -/
def execSraIndHl (s : State) : Host.Outcome State Fault Refusal := decodedSraIndHl.run s

/-- Decode and handler of `SWAP r` (R337). -/
def decodedSwapR (r : Reg8) : Decoded :=
  { handler := handleShift .swap,
    di := { opcode := .swap, mode := .register, src := some (.r8 r), dst := some (.r8 r) } }

/-- `SWAP r`: r <- SWAP r (R337). -/
def execSwapR (r : Reg8) (s : State) : Host.Outcome State Fault Refusal := (decodedSwapR r).run s

/-- Decode and handler of `SWAP (HL)` (R338). -/
def decodedSwapIndHl : Decoded :=
  { handler := handleShift .swap,
    di := { opcode := .swap, mode := .registerIndirectSourceAndDestination, src := some (.r16 .hl),
            dst := some (.r16 .hl) } }

/-- `SWAP (HL)`: [HL] <- SWAP [HL] (R338). -/
def execSwapIndHl (s : State) : Host.Outcome State Fault Refusal := decodedSwapIndHl.run s

/-- Decode and handler of `SRL r` (R339). -/
def decodedSrlR (r : Reg8) : Decoded :=
  { handler := handleShift .srl,
    di := { opcode := .srl, mode := .register, src := some (.r8 r), dst := some (.r8 r) } }

/-- `SRL r`: r <- SRL r (R339). -/
def execSrlR (r : Reg8) (s : State) : Host.Outcome State Fault Refusal := (decodedSrlR r).run s

/-- Decode and handler of `SRL (HL)` (R340). -/
def decodedSrlIndHl : Decoded :=
  { handler := handleShift .srl,
    di := { opcode := .srl, mode := .registerIndirectSourceAndDestination, src := some (.r16 .hl),
            dst := some (.r16 .hl) } }

/-- `SRL (HL)`: [HL] <- SRL [HL] (R340). -/
def execSrlIndHl (s : State) : Host.Outcome State Fault Refusal := decodedSrlIndHl.run s

/-- Decode and handler of `BIT b,r` (R341). -/
def decodedBitBR (b : BitVec 3) (r : Reg8) : Decoded :=
  { handler := handleBit,
    di := { opcode := .bit, mode := .register, src := some (.r8 r), dst := some (.r8 r),
            extra := (bitExtra b) } }

/-- `BIT b,r`: BIT bit b of r (R341). -/
def execBitBR (b : BitVec 3) (r : Reg8) (s : State) : Host.Outcome State Fault Refusal :=
  (decodedBitBR b r).run s

/-- Decode and handler of `BIT b,(HL)` (R342). -/
def decodedBitBIndHl (b : BitVec 3) : Decoded :=
  { handler := handleBit,
    di := { opcode := .bit, mode := .registerIndirectSource, src := some (.r16 .hl),
            extra := (bitExtra b) } }

/-- `BIT b,(HL)`: BIT bit b of [HL] (R342). -/
def execBitBIndHl (b : BitVec 3) (s : State) : Host.Outcome State Fault Refusal :=
  (decodedBitBIndHl b).run s

/-- Decode and handler of `RES b,r` (R343). -/
def decodedResBR (b : BitVec 3) (r : Reg8) : Decoded :=
  { handler := handleRes,
    di := { opcode := .res, mode := .register, src := some (.r8 r), dst := some (.r8 r),
            extra := (bitExtra b) } }

/-- `RES b,r`: RES bit b of r (R343). -/
def execResBR (b : BitVec 3) (r : Reg8) (s : State) : Host.Outcome State Fault Refusal :=
  (decodedResBR b r).run s

/-- Decode and handler of `RES b,(HL)` (R344). -/
def decodedResBIndHl (b : BitVec 3) : Decoded :=
  { handler := handleRes,
    di := { opcode := .res, mode := .registerIndirectSourceAndDestination, src := some (.r16 .hl),
            dst := some (.r16 .hl), extra := (bitExtra b) } }

/-- `RES b,(HL)`: RES bit b of [HL] (R344). -/
def execResBIndHl (b : BitVec 3) (s : State) : Host.Outcome State Fault Refusal :=
  (decodedResBIndHl b).run s

/-- Decode and handler of `SET b,r` (R345). -/
def decodedSetBR (b : BitVec 3) (r : Reg8) : Decoded :=
  { handler := handleSet,
    di := { opcode := .set, mode := .register, src := some (.r8 r), dst := some (.r8 r),
            extra := (bitExtra b) } }

/-- `SET b,r`: SET bit b of r (R345). -/
def execSetBR (b : BitVec 3) (r : Reg8) (s : State) : Host.Outcome State Fault Refusal :=
  (decodedSetBR b r).run s

/-- Decode and handler of `SET b,(HL)` (R346). -/
def decodedSetBIndHl (b : BitVec 3) : Decoded :=
  { handler := handleSet,
    di := { opcode := .set, mode := .registerIndirectSourceAndDestination, src := some (.r16 .hl),
            dst := some (.r16 .hl), extra := (bitExtra b) } }

/-- `SET b,(HL)`: SET bit b of [HL] (R346). -/
def execSetBIndHl (b : BitVec 3) (s : State) : Host.Outcome State Fault Refusal :=
  (decodedSetBIndHl b).run s

end Sys2Proof.Machine
end

