-- ==== Sys2Proof/Machine/System.lean ====
section
/-! DEFINITION. The meanings of system and privilege instructions (spec/47_system_privilege.md): for each
the rule's handler with the DecodedInstruction that its Decode makes, operand bytes in `op1` and `op2`
(log 5), and its meaning, the cycle of the two. -/

namespace Sys2Proof.Machine

/-- Decode and handler of `STOP` (R382). -/
def decodedStop : Decoded :=
  { handler := handleNop, di := { opcode := .stop, mode := .register } }

/-- `STOP`: raises sig.stop (R382). -/
def execStop (s : State) : Host.Outcome State Fault Refusal := decodedStop.run s

/-- Decode and handler of `HALT` (R381). -/
def decodedHalt : Decoded :=
  { handler := handleNop, di := { opcode := .halt, mode := .register } }

/-- `HALT`: raises sig.halt (R381). -/
def execHalt (s : State) : Host.Outcome State Fault Refusal := decodedHalt.run s

/-- Decode and handler of `DI` (R383). -/
def decodedDi : Decoded :=
  { handler := handleNop, di := { opcode := .di, mode := .register } }

/-- `DI`: clears sig.ime (R383). -/
def execDi (s : State) : Host.Outcome State Fault Refusal := decodedDi.run s

/-- Decode and handler of `EI` (R384). -/
def decodedEi : Decoded :=
  { handler := handleNop, di := { opcode := .ei, mode := .register } }

/-- `EI`: sets sig.ime (R384). -/
def execEi (s : State) : Host.Outcome State Fault Refusal := decodedEi.run s

/-- Decode and handler of `LDU r,(HL)` (R387). -/
def decodedLduRIndHl (r : Reg8) : Decoded :=
  { handler := handleLdu,
    di := { opcode := .ldu, mode := .registerIndirectSource, src := some (.r16 .hl),
            dst := some (.r8 r) } }

/-- `LDU r,(HL)`: r <- User [HL] (R387). -/
def execLduRIndHl (r : Reg8) (s : State) : Host.Outcome State Fault Refusal := (decodedLduRIndHl r).run s

/-- Decode and handler of `LDU A,(BC)` (R388). -/
def decodedLduAIndBc : Decoded :=
  { handler := handleLdu,
    di := { opcode := .ldu, mode := .registerIndirectSource, src := some (.r16 .bc),
            dst := some (.r8 .a) } }

/-- `LDU A,(BC)`: A <- User [BC] (R388). -/
def execLduAIndBc (s : State) : Host.Outcome State Fault Refusal := decodedLduAIndBc.run s

/-- Decode and handler of `LDU A,(DE)` (R389). -/
def decodedLduAIndDe : Decoded :=
  { handler := handleLdu,
    di := { opcode := .ldu, mode := .registerIndirectSource, src := some (.r16 .de),
            dst := some (.r8 .a) } }

/-- `LDU A,(DE)`: A <- User [DE] (R389). -/
def execLduAIndDe (s : State) : Host.Outcome State Fault Refusal := decodedLduAIndDe.run s

/-- Decode and handler of `LDU A,(HL+)` (R390). -/
def decodedLduAIndHlInc : Decoded :=
  { handler := handleLdu,
    di := { opcode := .ldu, mode := .registerIndirectSourceIncrement, src := some (.r16 .hl),
            dst := some (.r8 .a) } }

/-- `LDU A,(HL+)`: A <- User [HL], HL + 1 (R390). -/
def execLduAIndHlInc (s : State) : Host.Outcome State Fault Refusal := decodedLduAIndHlInc.run s

/-- Decode and handler of `LDU A,(HL-)` (R391). -/
def decodedLduAIndHlDec : Decoded :=
  { handler := handleLdu,
    di := { opcode := .ldu, mode := .registerIndirectSourceDecrement, src := some (.r16 .hl),
            dst := some (.r8 .a) } }

/-- `LDU A,(HL-)`: A <- User [HL], HL - 1 (R391). -/
def execLduAIndHlDec (s : State) : Host.Outcome State Fault Refusal := decodedLduAIndHlDec.run s

/-- Decode and handler of `JPU nn` (R392). -/
def decodedJpuNn (nn : Word) : Decoded :=
  { handler := handleJpu, di := { opcode := .jpu, mode := .immediatePair, op1 := lo nn, op2 := hi nn } }

/-- `JPU nn`: PC <- nn, raises sig.umr (R392). -/
def execJpuNn (nn : Word) (s : State) : Host.Outcome State Fault Refusal := (decodedJpuNn nn).run s

end Sys2Proof.Machine
end

