-- ==== Sys2Proof/Machine/Dispatch.lean ====
section
/-! DEFINITION. The dispatch: one arm per instruction, each one direct call of its meaning. -/

namespace Sys2Proof.Machine

/-- What an instruction does once its bytes have been fetched (spec/40_pipeline.md R173). -/
def exec (i : Instr) (s : State) : Host.Outcome State Fault Refusal :=
  match i with
  | .nop => Sys2Proof.Machine.execNop s
  | .ldDdNn dd nn => Sys2Proof.Machine.execLdDdNn dd nn s
  | .ldIndBcA => Sys2Proof.Machine.execLdIndBcA s
  | .ldIndDeA => Sys2Proof.Machine.execLdIndDeA s
  | .ldIndHlIncA => Sys2Proof.Machine.execLdIndHlIncA s
  | .ldIndHlDecA => Sys2Proof.Machine.execLdIndHlDecA s
  | .incSs ss => Sys2Proof.Machine.execIncSs ss s
  | .decSs ss => Sys2Proof.Machine.execDecSs ss s
  | .incR r => Sys2Proof.Machine.execIncR r s
  | .incIndHl => Sys2Proof.Machine.execIncIndHl s
  | .decR r => Sys2Proof.Machine.execDecR r s
  | .decIndHl => Sys2Proof.Machine.execDecIndHl s
  | .ldRN r n => Sys2Proof.Machine.execLdRN r n s
  | .ldIndHlN n => Sys2Proof.Machine.execLdIndHlN n s
  | .rlca => Sys2Proof.Machine.execRlca s
  | .rrca => Sys2Proof.Machine.execRrca s
  | .rla => Sys2Proof.Machine.execRla s
  | .rra => Sys2Proof.Machine.execRra s
  | .ldIndNnSp nn => Sys2Proof.Machine.execLdIndNnSp nn s
  | .addHlSs ss => Sys2Proof.Machine.execAddHlSs ss s
  | .ldAIndBc => Sys2Proof.Machine.execLdAIndBc s
  | .ldAIndDe => Sys2Proof.Machine.execLdAIndDe s
  | .ldAIndHlInc => Sys2Proof.Machine.execLdAIndHlInc s
  | .ldAIndHlDec => Sys2Proof.Machine.execLdAIndHlDec s
  | .stop => Sys2Proof.Machine.execStop s
  | .jr e => Sys2Proof.Machine.execJr e s
  | .jrCc cc e => Sys2Proof.Machine.execJrCc cc e s
  | .daa => Sys2Proof.Machine.execDaa s
  | .cpl => Sys2Proof.Machine.execCpl s
  | .scf => Sys2Proof.Machine.execScf s
  | .ccf => Sys2Proof.Machine.execCcf s
  | .ldRR r r' => Sys2Proof.Machine.execLdRR r r' s
  | .ldRIndHl r => Sys2Proof.Machine.execLdRIndHl r s
  | .ldIndHlR r => Sys2Proof.Machine.execLdIndHlR r s
  | .halt => Sys2Proof.Machine.execHalt s
  | .addAR r => Sys2Proof.Machine.execAddAR r s
  | .addAIndHl => Sys2Proof.Machine.execAddAIndHl s
  | .addAN n => Sys2Proof.Machine.execAddAN n s
  | .adcAR r => Sys2Proof.Machine.execAdcAR r s
  | .adcAIndHl => Sys2Proof.Machine.execAdcAIndHl s
  | .adcAN n => Sys2Proof.Machine.execAdcAN n s
  | .subR r => Sys2Proof.Machine.execSubR r s
  | .subIndHl => Sys2Proof.Machine.execSubIndHl s
  | .subN n => Sys2Proof.Machine.execSubN n s
  | .sbcAR r => Sys2Proof.Machine.execSbcAR r s
  | .sbcAIndHl => Sys2Proof.Machine.execSbcAIndHl s
  | .sbcAN n => Sys2Proof.Machine.execSbcAN n s
  | .andR r => Sys2Proof.Machine.execAndR r s
  | .andIndHl => Sys2Proof.Machine.execAndIndHl s
  | .andN n => Sys2Proof.Machine.execAndN n s
  | .xorR r => Sys2Proof.Machine.execXorR r s
  | .xorIndHl => Sys2Proof.Machine.execXorIndHl s
  | .xorN n => Sys2Proof.Machine.execXorN n s
  | .orR r => Sys2Proof.Machine.execOrR r s
  | .orIndHl => Sys2Proof.Machine.execOrIndHl s
  | .orN n => Sys2Proof.Machine.execOrN n s
  | .cpR r => Sys2Proof.Machine.execCpR r s
  | .cpIndHl => Sys2Proof.Machine.execCpIndHl s
  | .cpN n => Sys2Proof.Machine.execCpN n s
  | .retCc cc => Sys2Proof.Machine.execRetCc cc s
  | .popQq qq => Sys2Proof.Machine.execPopQq qq s
  | .jpCc cc nn => Sys2Proof.Machine.execJpCc cc nn s
  | .jp nn => Sys2Proof.Machine.execJp nn s
  | .callCc cc nn => Sys2Proof.Machine.execCallCc cc nn s
  | .pushQq qq => Sys2Proof.Machine.execPushQq qq s
  | .rst t => Sys2Proof.Machine.execRst t s
  | .ret => Sys2Proof.Machine.execRet s
  | .call nn => Sys2Proof.Machine.execCall nn s
  | .reti => Sys2Proof.Machine.execReti s
  | .ldhIndNA n => Sys2Proof.Machine.execLdhIndNA n s
  | .ldIndCA => Sys2Proof.Machine.execLdIndCA s
  | .addSpE e => Sys2Proof.Machine.execAddSpE e s
  | .jpHl => Sys2Proof.Machine.execJpHl s
  | .ldIndNnA nn => Sys2Proof.Machine.execLdIndNnA nn s
  | .ldhAIndN n => Sys2Proof.Machine.execLdhAIndN n s
  | .ldAIndC => Sys2Proof.Machine.execLdAIndC s
  | .di => Sys2Proof.Machine.execDi s
  | .ldHlSpE e => Sys2Proof.Machine.execLdHlSpE e s
  | .ldSpHl => Sys2Proof.Machine.execLdSpHl s
  | .ldAIndNn nn => Sys2Proof.Machine.execLdAIndNn nn s
  | .ei => Sys2Proof.Machine.execEi s
  | .rlcR r => Sys2Proof.Machine.execRlcR r s
  | .rlcIndHl => Sys2Proof.Machine.execRlcIndHl s
  | .rrcR r => Sys2Proof.Machine.execRrcR r s
  | .rrcIndHl => Sys2Proof.Machine.execRrcIndHl s
  | .rlR r => Sys2Proof.Machine.execRlR r s
  | .rlIndHl => Sys2Proof.Machine.execRlIndHl s
  | .rrR r => Sys2Proof.Machine.execRrR r s
  | .rrIndHl => Sys2Proof.Machine.execRrIndHl s
  | .slaR r => Sys2Proof.Machine.execSlaR r s
  | .slaIndHl => Sys2Proof.Machine.execSlaIndHl s
  | .sraR r => Sys2Proof.Machine.execSraR r s
  | .sraIndHl => Sys2Proof.Machine.execSraIndHl s
  | .swapR r => Sys2Proof.Machine.execSwapR r s
  | .swapIndHl => Sys2Proof.Machine.execSwapIndHl s
  | .srlR r => Sys2Proof.Machine.execSrlR r s
  | .srlIndHl => Sys2Proof.Machine.execSrlIndHl s
  | .bitBR b r => Sys2Proof.Machine.execBitBR b r s
  | .bitBIndHl b => Sys2Proof.Machine.execBitBIndHl b s
  | .resBR b r => Sys2Proof.Machine.execResBR b r s
  | .resBIndHl b => Sys2Proof.Machine.execResBIndHl b s
  | .setBR b r => Sys2Proof.Machine.execSetBR b r s
  | .setBIndHl b => Sys2Proof.Machine.execSetBIndHl b s
  | .ldIxNn nn => Sys2Proof.Machine.execLdIxNn nn s
  | .ldRIndIx r d => Sys2Proof.Machine.execLdRIndIx r d s
  | .ldIndIxR d r => Sys2Proof.Machine.execLdIndIxR d r s
  | .addAIndIx d => Sys2Proof.Machine.execAddAIndIx d s
  | .adcAIndIx d => Sys2Proof.Machine.execAdcAIndIx d s
  | .subIndIx d => Sys2Proof.Machine.execSubIndIx d s
  | .sbcAIndIx d => Sys2Proof.Machine.execSbcAIndIx d s
  | .andIndIx d => Sys2Proof.Machine.execAndIndIx d s
  | .xorIndIx d => Sys2Proof.Machine.execXorIndIx d s
  | .orIndIx d => Sys2Proof.Machine.execOrIndIx d s
  | .cpIndIx d => Sys2Proof.Machine.execCpIndIx d s
  | .incIx => Sys2Proof.Machine.execIncIx s
  | .decIx => Sys2Proof.Machine.execDecIx s
  | .addIxPp pp => Sys2Proof.Machine.execAddIxPp pp s
  | .pushIx => Sys2Proof.Machine.execPushIx s
  | .popIx => Sys2Proof.Machine.execPopIx s
  | .ldSpIx => Sys2Proof.Machine.execLdSpIx s
  | .jpIx => Sys2Proof.Machine.execJpIx s
  | .ldIyNn nn => Sys2Proof.Machine.execLdIyNn nn s
  | .ldRIndIy r d => Sys2Proof.Machine.execLdRIndIy r d s
  | .ldIndIyR d r => Sys2Proof.Machine.execLdIndIyR d r s
  | .addAIndIy d => Sys2Proof.Machine.execAddAIndIy d s
  | .adcAIndIy d => Sys2Proof.Machine.execAdcAIndIy d s
  | .subIndIy d => Sys2Proof.Machine.execSubIndIy d s
  | .sbcAIndIy d => Sys2Proof.Machine.execSbcAIndIy d s
  | .andIndIy d => Sys2Proof.Machine.execAndIndIy d s
  | .xorIndIy d => Sys2Proof.Machine.execXorIndIy d s
  | .orIndIy d => Sys2Proof.Machine.execOrIndIy d s
  | .cpIndIy d => Sys2Proof.Machine.execCpIndIy d s
  | .incIy => Sys2Proof.Machine.execIncIy s
  | .decIy => Sys2Proof.Machine.execDecIy s
  | .addIyPp pp => Sys2Proof.Machine.execAddIyPp pp s
  | .pushIy => Sys2Proof.Machine.execPushIy s
  | .popIy => Sys2Proof.Machine.execPopIy s
  | .ldSpIy => Sys2Proof.Machine.execLdSpIy s
  | .jpIy => Sys2Proof.Machine.execJpIy s
  | .lduRIndHl r => Sys2Proof.Machine.execLduRIndHl r s
  | .lduAIndBc => Sys2Proof.Machine.execLduAIndBc s
  | .lduAIndDe => Sys2Proof.Machine.execLduAIndDe s
  | .lduAIndHlInc => Sys2Proof.Machine.execLduAIndHlInc s
  | .lduAIndHlDec => Sys2Proof.Machine.execLduAIndHlDec s
  | .jpuNn nn => Sys2Proof.Machine.execJpuNn nn s

end Sys2Proof.Machine
end

