-- ==== Sys2Proof/Machine/Fetch.lean ====
section
/-! DEFINITION. Step 1 and the lookup of step 2 (spec/40_pipeline.md R131 to R134), and the
operand-at-PC reads of step 3 (R141), which come before every other access of the cycle in every mode
(R139, R148; log 5). -/

namespace Sys2Proof.Machine

/-- PC + 1, modulo 2^16. -/
def State.advancePc (s : State) : State := s.withRegs (s.regs.set16 .pc (s.regs.pc + 1))

/-- The byte addressed by PC, PC advanced after it (R131, R141). -/
def fetchByte (s : State) : Except Fault (Byte × State) := do
  let (v, s) ← memRead s.regs.pc s
  .ok (v, s.advancePc)

/-- `AcquireInstruction` (R131): PIR and IR written, PC past the one or two opcode bytes. -/
def fetchOpcode (s : State) : Except Fault State := do
  let (b0, s) ← fetchByte s
  if isPrefixByte b0 then
    let s := s.withRegs (s.regs.set8 .pir b0)
    let (b1, s) ← fetchByte s
    .ok (s.withRegs (s.regs.set8 .ir b1))
  else .ok (s.withRegs ((s.regs.set8 .ir b0).set8 .pir 0))

/-- The operand-at-PC reads of an instruction (R141): the first byte read is the low one (R104). -/
def fetchOperands (t : Template) (s : State) : Except Fault (Instr × State) :=
  match t with
  | .op0 i => .ok (i, s)
  | .op1 f => do
    let (x, s) ← fetchByte s
    .ok (f x, s)
  | .op2 f => do
    let (low, s) ← fetchByte s
    let (high, s) ← fetchByte s
    .ok (f (join high low), s)

/-- The state after a no-op cycle's fetch: the transient signals and `sig.umsor` read false, `sig.ime`
is kept (R134). -/
def noOpState (s : State) : State := (s.withSig s.sig.resetTransient).withUmsor false

/-- What fetching and decoding at PC gives. -/
inductive Fetched where
  | fault (f : Fault)
  /-- An unmapped opcode: the whole cycle is over (R134). -/
  | noOp (s : State)
  | instr (i : Instr) (s : State)

/-- Fetch, lookup, and the operand bytes (R131, R133, R141). -/
def fetchInstr (s : State) : Fetched :=
  match fetchOpcode s with
  | .error f => .fault f
  | .ok s =>
    match lookup s.regs.pir s.regs.ir with
    | .unmapped => .noOp (noOpState s)
    | .badRegister => .fault (.registerBankError s)
    | .found t =>
      match fetchOperands t (s.withUmsor t.isLdu) with
      | .error f => .fault f
      | .ok (i, s) => .instr i s

end Sys2Proof.Machine
end

