-- ==== Sys2Proof/Machine/Env.lean ====
section
/-! DEFINITION. The outer loop's moves between two cycles (spec/60_exceptions.md R440 to R446, R450;
spec/20_memory.md R63 to R69, R81 to R83), and the outer loop's turn before a cycle (R441, R442). -/

namespace Sys2Proof.Machine

/-- What a host call answers. -/
inductive HostReply where
  | done
  | bit (v : Bool)
  | byte (v : Byte)
  | word (v : Word)
  | level (v : SecurityLevel)
  /-- The handle of a new registration (R63). -/
  | handle (n : Nat)
  /-- The condition `InvalidRegister` (R450), which is not a fault. -/
  | invalidRegister
  deriving DecidableEq, Repr

/-- How a host call ends. -/
inductive HostOutcome where
  | reply (r : HostReply) (s : State)
  | fault (f : Fault)
  | refused (r : Refusal)
  deriving DecidableEq, Repr

/-- The value of a query (spec/40_pipeline.md R172). -/
def Signals.answer (g : Signals) : Query → Bool
  | .clearInterruptStatusSignal => g.cis
  | .haltSignal => g.halt
  | .stopSignal => g.stop
  | .interruptMasterEnable => g.ime
  | .isExecutionAborted => g.aborted
  | .userModeRequested => g.umr
  | .userModeSourceOperandRequested => g.umsor

/-- `ReadRegister(X)` (R450). -/
def readRegister (x : Register) (s : State) : HostReply :=
  match x with
  | .r8 y => .byte (s.regs.get8 y)
  | .r16 y => .word (s.regs.get16 y)

/-- `WriteRegister(X, v)` (R450). -/
def writeRegister (x : Register) (v : Word) (s : State) : State :=
  match x with
  | .r8 y => s.withRegs (s.regs.set8 y (lo v))
  | .r16 y => s.withRegs (s.regs.set16 y v)

/-- The host call fails and changes nothing (R432). -/
def hostFails (s : State) : HostOutcome := .fault (.memoryControllerError s)

/-- The two ranges share an address. -/
def rangesMeet (first last first' last' : Word) : Bool :=
  decide (first.toNat ≤ last'.toNat) && decide (first'.toNat ≤ last.toNat)

/-- Two tags may not stand over one address: they are the same, or one is `Both` (spec/20_memory.md R69). -/
def tagsClash (p q : Privilege) : Bool := p == q || p == .both || q == .both

/-- Registering that backing resource over that range with that tag would overlap this registration (R63,
R69). Over a common address a System and a User registration are two objects (R65): log 23. -/
def Resource.conflicts (r : Resource) (place : Nat) (first last : Word) (tag : Privilege) : Bool :=
  rangesMeet r.first r.last first last && (tagsClash r.tag tag || r.backing == place)

/-- Registering that device at that address with that tag would meet this registration (R64, R69; R65 and
log 23 for one device). -/
def MappedRegister.conflicts (g : MappedRegister) (place : Nat) (a : Word) (tag : Privilege) : Bool :=
  (g.address == a) && (tagsClash g.tag tag || g.device == place)

/-- The place an object of a registration call has in the machine's list. -/
def ObjectRef.place {α : Type} (object : ObjectRef α) (known : List α) : Nat :=
  match object with
  | .fresh _ => known.length
  | .known place => place

/-- The machine's list with the object of a registration call in it. -/
def ObjectRef.listed {α : Type} (object : ObjectRef α) (known : List α) : List α :=
  match object with
  | .fresh x => known ++ [x]
  | .known _ => known

/-- A backing resource that a call brings, its bytes in canonical form. -/
def ObjectRef.canonical : ObjectRef Backing → ObjectRef Backing
  | .fresh m => .fresh m.canonical
  | .known place => .known place

/-- `RegisterMemoryResource` (R63, R65, R67, R69). -/
def registerResource (object : ObjectRef Backing) (first last : Word) (tag : Privilege) (s : State) :
    HostOutcome :=
  let backings := object.canonical.listed s.backings
  let place := object.canonical.place s.backings
  if first.toNat ≤ last.toNat
      ∧ (backings[place]?).map Backing.size = some (last.toNat - first.toNat + 1)
      ∧ s.resources.any (fun r => r.conflicts place first last tag) = false then
    .reply (.handle s.nextHandle)
      { s with
        backings := backings
        resources := { handle := s.nextHandle, backing := place, first := first, last := last,
                       tag := tag } :: s.resources
        nextHandle := s.nextHandle + 1 }
  else hostFails s

/-- The registration a handle names under a tag (R63). -/
def Resource.isNamed (r : Resource) (handle : Nat) (tag : Privilege) : Bool :=
  r.handle == handle && r.tag == tag

/-- `UnregisterMemoryResource(handle, tag)` (R63). -/
def unregisterResource (handle : Nat) (tag : Privilege) (s : State) : HostOutcome :=
  if s.resources.any (fun r => r.isNamed handle tag) then
    .reply .done (s.withResources (s.resources.filter (fun r => !r.isNamed handle tag)))
  else hostFails s

/-- `RegisterMemoryMappedRegister` (R64, R65, R69). -/
def registerMapped (object : ObjectRef Device) (a : Word) (tag : Privilege) (s : State) : HostOutcome :=
  let devices := object.listed s.devices
  let place := object.place s.devices
  if place < devices.length ∧ s.mapped.any (fun g => g.conflicts place a tag) = false then
    .reply .done
      { s with
        devices := devices
        mapped := { device := place, address := a, tag := tag } :: s.mapped }
  else hostFails s

/-- A mapped register registered at that address under that tag. -/
def MappedRegister.isAt (g : MappedRegister) (a : Word) (tag : Privilege) : Bool :=
  (g.address == a) && g.tag == tag

/-- `UnregisterMemoryMappedRegister(address, tag)` (R64). -/
def unregisterMapped (a : Word) (tag : Privilege) (s : State) : HostOutcome :=
  if s.mapped.any (fun g => g.isAt a tag) then
    .reply .done (s.withMapped (s.mapped.filter (fun g => !g.isAt a tag)))
  else hostFails s

/-- `Load` without a bank offset (R82): into the resource visible at `dest`, mapped registers ignored. -/
def loadBytes (buffer : List Byte) (dest : Word) (s : State) : HostOutcome :=
  match s.resourceAt s.level dest with
  | none => hostFails s
  | some r =>
    if r.offset dest + buffer.length ≤ r.size then
      .reply .done
        (s.withBackings (s.backings.modify r.backing (fun m => m.load (r.offset dest) buffer)))
    else hostFails s

/-- One move of ENV (R440). -/
def hostMove (m : HostMove) (s : State) : HostOutcome :=
  match m with
  | .query q => .reply (.bit (s.sig.answer q)) s
  | .securityLevel => .reply (.level s.level) s
  | .setSecurityLevel level => .reply .done (s.withLevel level)
  | .readRegister x => .reply (readRegister x s) s
  | .writeRegister x v => .reply .done (writeRegister x v s)
  | .readWireRegister x =>
    match Config.debugWireMap x with
    | some x => .reply (readRegister x s) s
    | none => .reply .invalidRegister s
  | .writeWireRegister x v =>
    match Config.debugWireMap x with
    | some x => .reply .done (writeRegister x v s)
    | none => .reply .invalidRegister s
  | .readByte a =>
    match memRead a s with
    | .ok (v, s) => .reply (.byte v) s
    | .error f => .fault f
  | .readWord a =>
    match memReadWord a s with
    | .ok (v, s) => .reply (.word v) s
    | .error f => .fault f
  | .writeByte a v =>
    match memWrite a v s with
    | .ok s => .reply .done s
    | .error f => .fault f
  | .writeWord a v =>
    match memWriteWord a v s with
    | .ok s => .reply .done s
    | .error f => .fault f
  | .registerResource object first last tag => registerResource object first last tag s
  | .unregisterResource handle tag => unregisterResource handle tag s
  | .registerMapped object a tag => registerMapped object a tag s
  | .unregisterMapped a tag => unregisterMapped a tag s
  | .load buffer dest none => loadBytes buffer dest s
  | .load _ _ (some _) => .refused .loadWithBankOffset
  | .switchBank _ _ => .refused .switchBank

/-- The state a fault left behind (R433). -/
def Fault.left : Fault → State
  | .registerBankError s => s
  | .memoryUnmapped _ s => s
  | .memoryControllerError s => s
  | .aluError s => s

/-- The moves the outer loop has lined up, in order; the host is told of a failing one and goes on
(R432, log 13). -/
def runHostMoves : List HostMove → State → Except Refusal State
  | [], s => .ok s
  | m :: ms, s =>
    match hostMove m s with
    | .reply _ s => runHostMoves ms s
    | .fault f => runHostMoves ms f.left
    | .refused r => .error r

/-- The answer to `sig.umr` (R441, R442): `SetSecurityLevel(User)` before the next cycle, made by the
reference outer loop and not by a passive one (spec/70_reset_and_hazards.md R487). -/
def answerSignals (s : State) : State :=
  match s.outerLoop with
  | .reference => if s.sig.umr then s.withLevel .user else s
  | .passive => s

/-- The outer loop's turn before a cycle: the answer to the signals, then its lined-up moves. -/
def hostTurn (s : State) : Except Refusal State :=
  runHostMoves s.hostMoves ((answerSignals s).withHostMoves [])

end Sys2Proof.Machine
end

