-- ==== Sys2Proof/Machine/Step.lean ====
section
/-! DEFINITION. The step of the machine: the outer loop's turn (spec/60_exceptions.md R440 to R442), then
one `RunCycle` (spec/40_pipeline.md R130, R173). -/

namespace Sys2Proof.Machine

/-- `RunCycle` (R173). -/
def runCycle (s : State) : Host.Outcome State Fault Refusal :=
  match fetchInstr s with
  | .fault f => .fault f
  | .noOp s => .next s
  | .instr i s => exec i s

/-- One step: ENV acts between cycles only (R11), so its turn comes first. Log 7. -/
def step (s : State) : Host.Outcome State Fault Refusal :=
  match hostTurn s with
  | .error r => .refused r
  | .ok s => runCycle s

/-- The state whose next step fetches and runs the instruction of a table word: its bytes are placed at PC
in the scope the next fetch reads, and the outer loop has no move lined up. Log 11, log 12. -/
def State.withFetchWord (s : State) (nbits w : Nat) : State :=
  (s.withHostMoves []).placeBytes (answerSignals s).level s.regs.pc (tableBytes nbits w)

end Sys2Proof.Machine
end

