-- ==== Sys2Proof/Machine/Optable.lean ====
section
/-! DEFINITION. The instruction set as the parameter `OPTABLE` (spec/00_scope.md R3, R8, R10): the cycle of any
opcode table, each step as its rule writes it (spec/40_pipeline.md R131 to R134, R141, R148, R173), and the
baseline table as one value of the parameter. -/

namespace Sys2Proof.Machine

/-- A handler as the table holds it (R10, R150): its Decode, a function of the one or two opcode bytes that can
only fail with a RegisterBank error (R133, R151), and its Execute or ConditionallyExecute. -/
structure OpHandler where
  decode : Byte → Option Byte → Option DecodedInstruction
  execute : Handler

/-- `OPTABLE` (R10): from (PIR, IR), PIR = 0 meaning no prefix, to a handler or none. -/
abbrev Optable := Byte → Byte → Option OpHandler

/-- `DecodeStep` (R133): none is the no-op cycle of an unmapped entry. -/
def decodeStep (table : Optable) (s : State) : Except Fault (Option (Decoded × State)) :=
  match table s.regs.pir s.regs.ir with
  | none => .ok none
  | some h => do
    let prefixByte := if s.regs.pir = 0 then none else some s.regs.pir
    let di ← orBankError (s.regs.attempt (h.decode s.regs.ir prefixByte)) s
    .ok (some ({ handler := h.execute, di := di }, s.withUmsor di.requestsUserSource))

/-- `di.op1`, operand-at-PC included (R141 to R143). -/
def acquireFirst (t : Traits) (di : DecodedInstruction) (s : State) :
    Except Fault (DecodedInstruction × State) :=
  if t.op1 = .atPC then do
    let (v, s) ← fetchByte s
    .ok ({ di with op1 := v }, s)
  else acquireOp1 t di s

/-- `di.op2`, operand-at-PC included (R141, R144 to R146). -/
def acquireSecond (t : Traits) (di : DecodedInstruction) (s : State) :
    Except Fault (DecodedInstruction × State) :=
  if t.op2 = .atPC then do
    let (v, s) ← fetchByte s
    .ok ({ di with op2 := v }, s)
  else acquireOp2 t di s

/-- Step 3 as a whole (R148). -/
def acquireAll (t : Traits) (di : DecodedInstruction) (s : State) :
    Except Fault (DecodedInstruction × State) := do
  let (di, s) ← acquireFirst t di s
  let (di, s) ← acquireSecond t di s
  acquireOp3 t di s

/-- `RunCycle` of a table, as R173 writes it. -/
def cycleSteps (table : Optable) (s : State) : Except Fault State := do
  let s ← fetchOpcode s
  match ← decodeStep table s with
  | none => .ok (noOpState s)
  | some (d, s) =>
    match traitsOf d.di.mode with
    | none => raise .aluError s
    | some t =>
      let (di, s) ← acquireAll t d.di s
      let (di, s) ← executeStep d.handler di s
      writeBack t di s

/-- `RunCycle` of a machine with that opcode table (R3, R173). -/
def runCycleOf (table : Optable) (s : State) : Host.Outcome State Fault Refusal :=
  finish (cycleSteps table s)

/-- One step of a machine with that opcode table: the outer loop's turn, then its cycle (log 7). -/
def stepOf (table : Optable) (s : State) : Host.Outcome State Fault Refusal :=
  match hostTurn s with
  | .error r => .refused r
  | .ok s => runCycleOf table s

/-! ### The baseline table -/

/-- The handler of an instruction and the DecodedInstruction that its Decode makes. -/
def decodedOf (i : Instr) : Decoded :=
  match i with
  | .nop => decodedNop
  | .ldDdNn dd nn => decodedLdDdNn dd nn
  | .ldIndBcA => decodedLdIndBcA
  | .ldIndDeA => decodedLdIndDeA
  | .ldIndHlIncA => decodedLdIndHlIncA
  | .ldIndHlDecA => decodedLdIndHlDecA
  | .incSs ss => decodedIncSs ss
  | .decSs ss => decodedDecSs ss
  | .incR r => decodedIncR r
  | .incIndHl => decodedIncIndHl
  | .decR r => decodedDecR r
  | .decIndHl => decodedDecIndHl
  | .ldRN r n => decodedLdRN r n
  | .ldIndHlN n => decodedLdIndHlN n
  | .rlca => decodedRlca
  | .rrca => decodedRrca
  | .rla => decodedRla
  | .rra => decodedRra
  | .ldIndNnSp nn => decodedLdIndNnSp nn
  | .addHlSs ss => decodedAddHlSs ss
  | .ldAIndBc => decodedLdAIndBc
  | .ldAIndDe => decodedLdAIndDe
  | .ldAIndHlInc => decodedLdAIndHlInc
  | .ldAIndHlDec => decodedLdAIndHlDec
  | .stop => decodedStop
  | .jr e => decodedJr e
  | .jrCc cc e => decodedJrCc cc e
  | .daa => decodedDaa
  | .cpl => decodedCpl
  | .scf => decodedScf
  | .ccf => decodedCcf
  | .ldRR r r' => decodedLdRR r r'
  | .ldRIndHl r => decodedLdRIndHl r
  | .ldIndHlR r => decodedLdIndHlR r
  | .halt => decodedHalt
  | .addAR r => decodedAddAR r
  | .addAIndHl => decodedAddAIndHl
  | .addAN n => decodedAddAN n
  | .adcAR r => decodedAdcAR r
  | .adcAIndHl => decodedAdcAIndHl
  | .adcAN n => decodedAdcAN n
  | .subR r => decodedSubR r
  | .subIndHl => decodedSubIndHl
  | .subN n => decodedSubN n
  | .sbcAR r => decodedSbcAR r
  | .sbcAIndHl => decodedSbcAIndHl
  | .sbcAN n => decodedSbcAN n
  | .andR r => decodedAndR r
  | .andIndHl => decodedAndIndHl
  | .andN n => decodedAndN n
  | .xorR r => decodedXorR r
  | .xorIndHl => decodedXorIndHl
  | .xorN n => decodedXorN n
  | .orR r => decodedOrR r
  | .orIndHl => decodedOrIndHl
  | .orN n => decodedOrN n
  | .cpR r => decodedCpR r
  | .cpIndHl => decodedCpIndHl
  | .cpN n => decodedCpN n
  | .retCc cc => decodedRetCc cc
  | .popQq qq => decodedPopQq qq
  | .jpCc cc nn => decodedJpCc cc nn
  | .jp nn => decodedJp nn
  | .callCc cc nn => decodedCallCc cc nn
  | .pushQq qq => decodedPushQq qq
  | .rst t => decodedRst t
  | .ret => decodedRet
  | .call nn => decodedCall nn
  | .reti => decodedReti
  | .ldhIndNA n => decodedLdhIndNA n
  | .ldIndCA => decodedLdIndCA
  | .addSpE e => decodedAddSpE e
  | .jpHl => decodedJpHl
  | .ldIndNnA nn => decodedLdIndNnA nn
  | .ldhAIndN n => decodedLdhAIndN n
  | .ldAIndC => decodedLdAIndC
  | .di => decodedDi
  | .ldHlSpE e => decodedLdHlSpE e
  | .ldSpHl => decodedLdSpHl
  | .ldAIndNn nn => decodedLdAIndNn nn
  | .ei => decodedEi
  | .rlcR r => decodedRlcR r
  | .rlcIndHl => decodedRlcIndHl
  | .rrcR r => decodedRrcR r
  | .rrcIndHl => decodedRrcIndHl
  | .rlR r => decodedRlR r
  | .rlIndHl => decodedRlIndHl
  | .rrR r => decodedRrR r
  | .rrIndHl => decodedRrIndHl
  | .slaR r => decodedSlaR r
  | .slaIndHl => decodedSlaIndHl
  | .sraR r => decodedSraR r
  | .sraIndHl => decodedSraIndHl
  | .swapR r => decodedSwapR r
  | .swapIndHl => decodedSwapIndHl
  | .srlR r => decodedSrlR r
  | .srlIndHl => decodedSrlIndHl
  | .bitBR b r => decodedBitBR b r
  | .bitBIndHl b => decodedBitBIndHl b
  | .resBR b r => decodedResBR b r
  | .resBIndHl b => decodedResBIndHl b
  | .setBR b r => decodedSetBR b r
  | .setBIndHl b => decodedSetBIndHl b
  | .ldIxNn nn => decodedLdIxNn nn
  | .ldRIndIx r d => decodedLdRIndIx r d
  | .ldIndIxR d r => decodedLdIndIxR d r
  | .addAIndIx d => decodedAddAIndIx d
  | .adcAIndIx d => decodedAdcAIndIx d
  | .subIndIx d => decodedSubIndIx d
  | .sbcAIndIx d => decodedSbcAIndIx d
  | .andIndIx d => decodedAndIndIx d
  | .xorIndIx d => decodedXorIndIx d
  | .orIndIx d => decodedOrIndIx d
  | .cpIndIx d => decodedCpIndIx d
  | .incIx => decodedIncIx
  | .decIx => decodedDecIx
  | .addIxPp pp => decodedAddIxPp pp
  | .pushIx => decodedPushIx
  | .popIx => decodedPopIx
  | .ldSpIx => decodedLdSpIx
  | .jpIx => decodedJpIx
  | .ldIyNn nn => decodedLdIyNn nn
  | .ldRIndIy r d => decodedLdRIndIy r d
  | .ldIndIyR d r => decodedLdIndIyR d r
  | .addAIndIy d => decodedAddAIndIy d
  | .adcAIndIy d => decodedAdcAIndIy d
  | .subIndIy d => decodedSubIndIy d
  | .sbcAIndIy d => decodedSbcAIndIy d
  | .andIndIy d => decodedAndIndIy d
  | .xorIndIy d => decodedXorIndIy d
  | .orIndIy d => decodedOrIndIy d
  | .cpIndIy d => decodedCpIndIy d
  | .incIy => decodedIncIy
  | .decIy => decodedDecIy
  | .addIyPp pp => decodedAddIyPp pp
  | .pushIy => decodedPushIy
  | .popIy => decodedPopIy
  | .ldSpIy => decodedLdSpIy
  | .jpIy => decodedJpIy
  | .lduRIndHl r => decodedLduRIndHl r
  | .lduAIndBc => decodedLduAIndBc
  | .lduAIndDe => decodedLduAIndDe
  | .lduAIndHlInc => decodedLduAIndHlInc
  | .lduAIndHlDec => decodedLduAIndHlDec
  | .jpuNn nn => decodedJpuNn nn

/-- The instruction of a template before its operand bytes are read: a fresh DecodedInstruction has them 0
(spec/40_pipeline.md R136). -/
def unread : Template → Instr
  | .op0 i => i
  | .op1 f => f 0
  | .op2 f => f 0

/-- The baseline value of `OPTABLE` (R3; spec/30_encoding.md R105 to R110), the one that `step` runs. -/
def baseline : Optable := fun pir ir =>
  match lookup pir ir with
  | .unmapped => none
  | .badRegister => some { decode := fun _ _ => none, execute := handleNop }
  | .found t =>
    some { decode := fun _ _ => some (decodedOf (unread t)).di,
           execute := (decodedOf (unread t)).handler }

end Sys2Proof.Machine
end

