-- ==== Sys2Proof/Safety.lean ====
section
/-! DEFINITION. What claims are stated with: the invariant of the routing tables (spec/20_memory.md R67,
R69), a run under the reference outer loop and how it ends (spec/60_exceptions.md R441, R446), and the
frame of the state outside registers and memory. -/

namespace Sys2Proof.Machine

/-! ### The invariant -/

/-- A backing resource: its bytes in canonical form and inside `Size()` (R68). -/
abbrev Backing.wf (m : Backing) : Prop := Memory.wf m.bytes ∧ ∀ cell ∈ m.bytes, cell.1 < m.size

/-- A registered resource: begin ≤ end, over a backing resource of just that size (R67), its handle already
given out (R63). -/
abbrev Resource.wf (backings : List Backing) (nextHandle : Nat) (r : Resource) : Prop :=
  r.first.toNat ≤ r.last.toNat ∧ (backings[r.backing]?).map Backing.size = some r.size
    ∧ r.handle < nextHandle

/-- Two resource registrations may stand together (R63, R65, R69), under different handles. -/
abbrev Resource.apart (q r : Resource) : Prop :=
  r.conflicts q.backing q.first q.last q.tag = false ∧ q.handle ≠ r.handle

/-- Two mapped-register registrations may stand together (R64, R65, R69). -/
abbrev MappedRegister.apart (g h : MappedRegister) : Prop :=
  h.conflicts g.device g.address g.tag = false

/-- The backing resources are in canonical form and the routing tables as registrations can make them. -/
abbrev State.wf (s : State) : Prop :=
  (∀ m ∈ s.backings, m.wf) ∧ (∀ r ∈ s.resources, r.wf s.backings s.nextHandle)
    ∧ s.resources.Pairwise Resource.apart ∧ s.mapped.Pairwise MappedRegister.apart

/-- The place of a backing resource and the offset in it that a scope has at an address, where a plain resource
answers there (R68, R71). Two addresses, or one in two scopes, are one byte when these agree. -/
def State.cellAt (s : State) (scope : SecurityLevel) (a : Word) : Option (Nat × Nat) :=
  match s.route scope a with
  | .device _ => none
  | .resource r => some (r.backing, r.offset a)
  | .unmapped => none

/-! ### Runs -/

/-- How a run under the reference outer loop stands after some cycles (R441, R446). -/
inductive RunEnd where
  | running (s : State)
  | halted (s : State)
  | stopped (s : State)
  | fault (f : Fault)
  | refused (r : Refusal)
  deriving DecidableEq, Repr

/-- At most that many cycles, ended by a halt, a stop, a fault or a refusal (R441, R446). -/
def referenceRun : Nat → State → RunEnd
  | 0, s => .running s
  | n + 1, s =>
    match step s with
    | .fault f => .fault f
    | .refused r => .refused r
    | .next s => if s.sig.halt then .halted s else if s.sig.stop then .stopped s else referenceRun n s

/-! ### Frames -/

/-- Everything but the RegisterBank, the signals, the resources' bytes, the devices and the draws is the
same: the level, the routing tables, the outer loop. -/
structure State.SameRouting (s t : State) : Prop where
  level : t.level = s.level
  sizes : t.backings.map Backing.size = s.backings.map Backing.size
  resources : t.resources = s.resources
  mapped : t.mapped = s.mapped
  nextHandle : t.nextHandle = s.nextHandle
  outerLoop : t.outerLoop = s.outerLoop
  hostMoves : t.hostMoves = s.hostMoves

/-- The signals after step 4 of an instruction that raises none and did not abort (spec/40_pipeline.md
R160, R162): only `sig.ime` and `sig.umsor` are left. -/
def Signals.quiet (g : Signals) (umsor : Bool) : Signals :=
  { cis := false, halt := false, stop := false, ime := g.ime, aborted := false, umr := false,
    umsor := umsor }

/-- F with the four flags Z (bit 7), N (bit 6), H (bit 5), CY (bit 4) as given and bits 3 to 0 as in the
old F (spec/10_state.md R30, R33). -/
def flagByte (old : Byte) (z n h cy : Bool) : Byte :=
  (if z then 0x80 else 0) ||| (if n then 0x40 else 0) ||| (if h then 0x20 else 0)
    ||| (if cy then 0x10 else 0) ||| (old &&& 0x0F)

/-! ### How an instruction completes, and how it stops

Each of the following says for EVERY state either the next state or the fault with the state left. -/

/-- The state after a cycle that wrote the RegisterBank and raised no signal. -/
def State.done (s : State) (rb : RegisterBank) : State := (s.withRegs rb).withSig (s.sig.quiet false)

/-- The instruction touches no memory and always completes. -/
def RegisterOnly (i : Instr) (res : RegisterBank → RegisterBank) : Prop :=
  ∀ s : State, exec i s = .next (s.done (res s.regs))

/-- The instruction reads the byte at `a`; the RegisterBank after it is a function of that byte. Where the
level maps nothing at `a`, it stops there. -/
def ReadsByte (i : Instr) (a : RegisterBank → Word) (res : RegisterBank → Byte → RegisterBank) : Prop :=
  ∀ s : State,
    (s.accessible s.level (a s.regs) = true →
      exec i s = .next ((s.afterRead s.level (a s.regs)).done
        (res s.regs (s.readValue s.level (a s.regs)))))
    ∧ (s.accessible s.level (a s.regs) = false →
      exec i s = .fault (.memoryUnmapped (a s.regs) (s.withUmsor false)))

/-- The instruction stores the byte `v` at `a`. -/
def WritesByte (i : Instr) (a : RegisterBank → Word) (v : RegisterBank → Byte)
    (res : RegisterBank → RegisterBank) : Prop :=
  ∀ s : State,
    (s.accessible s.level (a s.regs) = true →
      exec i s = .next ((s.afterWrite s.level (a s.regs) (v s.regs)).done (res s.regs)))
    ∧ (s.accessible s.level (a s.regs) = false →
      exec i s = .fault (.memoryUnmapped (a s.regs) (s.done s.regs)))

/-- The instruction reads the byte at `a` and then stores a function of it there. -/
def UpdatesByte (i : Instr) (a : RegisterBank → Word) (v : RegisterBank → Byte → Byte)
    (res : RegisterBank → Byte → RegisterBank) : Prop :=
  ∀ s : State,
    (s.accessible s.level (a s.regs) = true →
      exec i s = .next
        (((s.afterRead s.level (a s.regs)).afterWrite s.level (a s.regs)
          (v s.regs (s.readValue s.level (a s.regs)))).done
            (res s.regs (s.readValue s.level (a s.regs)))))
    ∧ (s.accessible s.level (a s.regs) = false →
      exec i s = .fault (.memoryUnmapped (a s.regs) (s.withUmsor false)))

/-- The instruction stores the byte `x` at `a`, then the byte `y` at `b`. Its own registers change only
after both; where a store faults, `mid` is what step 4 left. -/
def WritesTwoBytes (i : Instr) (a b : RegisterBank → Word) (x y : RegisterBank → Byte)
    (mid res : RegisterBank → RegisterBank) : Prop :=
  ∀ s : State,
    (s.accessible s.level (a s.regs) = true → s.accessible s.level (b s.regs) = true →
      exec i s = .next (((s.afterWrite s.level (a s.regs) (x s.regs)).afterWrite s.level (b s.regs)
        (y s.regs)).done (res s.regs)))
    ∧ (s.accessible s.level (a s.regs) = false →
      exec i s = .fault (.memoryUnmapped (a s.regs) (s.done (mid s.regs))))
    ∧ (s.accessible s.level (a s.regs) = true → s.accessible s.level (b s.regs) = false →
      exec i s = .fault (.memoryUnmapped (b s.regs)
        ((s.afterWrite s.level (a s.regs) (x s.regs)).done (mid s.regs))))

/-- The instruction reads the two bytes at SP and SP + 1, low byte first; `fin` gives the RegisterBank (from
the pair read) and the signals after it. SP is stepped once where the second read faults. -/
def ReadsStack (i : Instr) (fin : RegisterBank → Word → RegisterBank)
    (sig : RegisterBank → Signals → Signals) : Prop :=
  ∀ s : State,
    (s.accessible s.level s.regs.sp = true → s.accessible s.level (s.regs.sp + 1) = true →
      exec i s = .next
        ((((s.afterRead s.level s.regs.sp).afterRead s.level (s.regs.sp + 1)).withRegs
          (fin s.regs ((s.afterRead s.level s.regs.sp).readValue s.level (s.regs.sp + 1)
            ++ s.readValue s.level s.regs.sp))).withSig (sig s.regs (s.sig.quiet false))))
    ∧ (s.accessible s.level s.regs.sp = false →
      exec i s = .fault (.memoryUnmapped s.regs.sp (s.withUmsor false)))
    ∧ (s.accessible s.level s.regs.sp = true → s.accessible s.level (s.regs.sp + 1) = false →
      exec i s = .fault (.memoryUnmapped (s.regs.sp + 1)
        (((s.afterRead s.level s.regs.sp).withRegs { s.regs with sp := s.regs.sp + 1 }).withUmsor
          false)))

/-- The five operand forms of an 8-bit operation on A: register, `(HL)`, immediate, `(IX+d)`, `(IY+d)`. -/
def OperandForms (r : Reg8 → Instr) (hl : Instr) (n ix iy : Byte → Instr)
    (res : RegisterBank → Byte → RegisterBank) : Prop :=
  (∀ x, RegisterOnly (r x) fun rb => res rb (rb.get8 x))
  ∧ ReadsByte hl (fun rb => rb.get16 .hl) res
  ∧ (∀ x, RegisterOnly (n x) fun rb => res rb x)
  ∧ (∀ d, ReadsByte (ix d) (fun rb => rb.ix + d.signExtend 16) res)
  ∧ (∀ d, ReadsByte (iy d) (fun rb => rb.iy + d.signExtend 16) res)

/-- The condition of a conditional jump, call or return (spec/46_control_transfer.md R350). -/
def condHolds (cc : Cond) (f : Byte) : Bool :=
  match cc with
  | .nz => !f.getLsbD 7
  | .z => f.getLsbD 7
  | .nc => !f.getLsbD 4
  | .c => f.getLsbD 4

/-- The condition an instruction tests. -/
def conditionOf : Instr → Option Cond
  | .jrCc cc _ => some cc
  | .jpCc cc _ => some cc
  | .callCc cc _ => some cc
  | .retCc cc => some cc
  | .nop | .ldDdNn _ _ | .ldIndBcA | .ldIndDeA | .ldIndHlIncA | .ldIndHlDecA | .incSs _ | .decSs _
  | .incR _ | .incIndHl | .decR _ | .decIndHl | .ldRN _ _ | .ldIndHlN _ | .rlca | .rrca | .rla | .rra
  | .ldIndNnSp _ | .addHlSs _ | .ldAIndBc | .ldAIndDe | .ldAIndHlInc | .ldAIndHlDec | .stop | .jr _
  | .daa | .cpl | .scf | .ccf | .ldRR _ _ | .ldRIndHl _ | .ldIndHlR _ | .halt | .addAR _ | .addAIndHl
  | .addAN _ | .adcAR _ | .adcAIndHl | .adcAN _ | .subR _ | .subIndHl | .subN _ | .sbcAR _ | .sbcAIndHl
  | .sbcAN _ | .andR _ | .andIndHl | .andN _ | .xorR _ | .xorIndHl | .xorN _ | .orR _ | .orIndHl
  | .orN _ | .cpR _ | .cpIndHl | .cpN _ | .popQq _ | .jp _ | .pushQq _ | .rst _ | .ret | .call _
  | .reti | .ldhIndNA _ | .ldIndCA | .addSpE _ | .jpHl | .ldIndNnA _ | .ldhAIndN _ | .ldAIndC | .di
  | .ldHlSpE _ | .ldSpHl | .ldAIndNn _ | .ei | .rlcR _ | .rlcIndHl | .rrcR _ | .rrcIndHl | .rlR _
  | .rlIndHl | .rrR _ | .rrIndHl | .slaR _ | .slaIndHl | .sraR _ | .sraIndHl | .swapR _ | .swapIndHl
  | .srlR _ | .srlIndHl | .bitBR _ _ | .bitBIndHl _ | .resBR _ _ | .resBIndHl _ | .setBR _ _
  | .setBIndHl _ | .ldIxNn _ | .ldRIndIx _ _ | .ldIndIxR _ _ | .addAIndIx _ | .adcAIndIx _
  | .subIndIx _ | .sbcAIndIx _ | .andIndIx _ | .xorIndIx _ | .orIndIx _ | .cpIndIx _ | .incIx | .decIx
  | .addIxPp _ | .pushIx | .popIx | .ldSpIx | .jpIx | .ldIyNn _ | .ldRIndIy _ _ | .ldIndIyR _ _
  | .addAIndIy _ | .adcAIndIy _ | .subIndIy _ | .sbcAIndIy _ | .andIndIy _ | .xorIndIy _ | .orIndIy _
  | .cpIndIy _ | .incIy | .decIy | .addIyPp _ | .pushIy | .popIy | .ldSpIy | .jpIy | .lduRIndHl _
  | .lduAIndBc | .lduAIndDe | .lduAIndHlInc | .lduAIndHlDec | .jpuNn _ => none

/-! ### What an instruction writes -/

/-- The two addresses of a push, in the order written (spec/40_pipeline.md R167). -/
def pushedAddresses (rb : RegisterBank) : List Word := [rb.sp - 2 + 1, rb.sp - 2]

/-- The addresses an instruction stores to. -/
def storedAddresses (i : Instr) (rb : RegisterBank) : List Word :=
  match i with
  | .ldIndBcA => [rb.get16 .bc]
  | .ldIndDeA => [rb.get16 .de]
  | .ldIndHlR _ | .ldIndHlN _ | .ldIndHlIncA | .ldIndHlDecA | .incIndHl | .decIndHl | .rlcIndHl
  | .rrcIndHl | .rlIndHl | .rrIndHl | .slaIndHl | .sraIndHl | .swapIndHl | .srlIndHl | .resBIndHl _
  | .setBIndHl _ => [rb.get16 .hl]
  | .ldIndNnA nn => [nn]
  | .ldIndCA => [highAddress rb.c]
  | .ldhIndNA n => [highAddress n]
  | .ldIndIxR d _ => [rb.ix + sext d]
  | .ldIndIyR d _ => [rb.iy + sext d]
  | .ldIndNnSp nn => [nn, nn + 1]
  | .pushQq _ | .pushIx | .pushIy | .call _ | .rst _ => pushedAddresses rb
  | .callCc cc _ => if condHolds cc rb.f then pushedAddresses rb else []
  | .nop | .ldDdNn _ _ | .incSs _ | .decSs _ | .incR _ | .decR _ | .ldRN _ _ | .rlca | .rrca | .rla
  | .rra | .addHlSs _ | .ldAIndBc | .ldAIndDe | .ldAIndHlInc | .ldAIndHlDec | .stop | .jr _ | .jrCc _ _
  | .daa | .cpl | .scf | .ccf | .ldRR _ _ | .ldRIndHl _ | .halt | .addAR _ | .addAIndHl | .addAN _
  | .adcAR _ | .adcAIndHl | .adcAN _ | .subR _ | .subIndHl | .subN _ | .sbcAR _ | .sbcAIndHl | .sbcAN _
  | .andR _ | .andIndHl | .andN _ | .xorR _ | .xorIndHl | .xorN _ | .orR _ | .orIndHl | .orN _ | .cpR _
  | .cpIndHl | .cpN _ | .retCc _ | .popQq _ | .jpCc _ _ | .jp _ | .ret | .reti | .addSpE _ | .jpHl
  | .ldhAIndN _ | .ldAIndC | .di | .ldHlSpE _ | .ldSpHl | .ldAIndNn _ | .ei | .rlcR _ | .rrcR _
  | .rlR _ | .rrR _ | .slaR _ | .sraR _ | .swapR _ | .srlR _ | .bitBR _ _ | .bitBIndHl _ | .resBR _ _
  | .setBR _ _ | .ldIxNn _ | .ldRIndIx _ _ | .addAIndIx _ | .adcAIndIx _ | .subIndIx _ | .sbcAIndIx _
  | .andIndIx _ | .xorIndIx _ | .orIndIx _ | .cpIndIx _ | .incIx | .decIx | .addIxPp _ | .popIx
  | .ldSpIx | .jpIx | .ldIyNn _ | .ldRIndIy _ _ | .addAIndIy _ | .adcAIndIy _ | .subIndIy _
  | .sbcAIndIy _ | .andIndIy _ | .xorIndIy _ | .orIndIy _ | .cpIndIy _ | .incIy | .decIy | .addIyPp _
  | .popIy | .ldSpIy | .jpIy | .lduRIndHl _ | .lduAIndBc | .lduAIndDe | .lduAIndHlInc | .lduAIndHlDec
  | .jpuNn _ => []

/-- The registers an instruction writes: its destination, F where the spec gives it a flag to write
(spec/10_state.md R32), a pair it steps, SP of a push or a pop, PC of a transfer. -/
def writtenRegisters : Instr → List Register
  | .ldDdNn dd _ => [.r16 dd]
  | .ldIndHlIncA | .ldIndHlDecA => [.r16 .hl]
  | .incSs ss | .decSs ss => [.r16 ss]
  | .incR r | .decR r => [.r8 r, .r8 .f]
  | .incIndHl | .decIndHl => [.r8 .f]
  | .ldRN r _ | .ldRR r _ | .ldRIndHl r | .ldRIndIx r _ | .ldRIndIy r _ | .lduRIndHl r | .resBR _ r
  | .setBR _ r => [.r8 r]
  | .rlca | .rrca | .rla | .rra | .daa | .cpl => [.r8 .a, .r8 .f]
  | .addHlSs _ => [.r16 .hl, .r8 .f]
  | .ldAIndBc | .ldAIndDe | .ldAIndNn _ | .ldAIndC | .ldhAIndN _ | .lduAIndBc | .lduAIndDe => [.r8 .a]
  | .ldAIndHlInc | .ldAIndHlDec | .lduAIndHlInc | .lduAIndHlDec => [.r8 .a, .r16 .hl]
  | .scf | .ccf | .cpR _ | .cpIndHl | .cpN _ | .cpIndIx _ | .cpIndIy _ | .bitBR _ _ | .bitBIndHl _
  | .rlcIndHl | .rrcIndHl | .rlIndHl | .rrIndHl | .slaIndHl | .sraIndHl | .swapIndHl
  | .srlIndHl => [.r8 .f]
  | .addAR _ | .addAIndHl | .addAN _ | .addAIndIx _ | .addAIndIy _
  | .adcAR _ | .adcAIndHl | .adcAN _ | .adcAIndIx _ | .adcAIndIy _
  | .subR _ | .subIndHl | .subN _ | .subIndIx _ | .subIndIy _
  | .sbcAR _ | .sbcAIndHl | .sbcAN _ | .sbcAIndIx _ | .sbcAIndIy _
  | .andR _ | .andIndHl | .andN _ | .andIndIx _ | .andIndIy _
  | .xorR _ | .xorIndHl | .xorN _ | .xorIndIx _ | .xorIndIy _
  | .orR _ | .orIndHl | .orN _ | .orIndIx _ | .orIndIy _ => [.r8 .a, .r8 .f]
  | .rlcR r | .rrcR r | .rlR r | .rrR r | .slaR r | .sraR r | .swapR r | .srlR r => [.r8 r, .r8 .f]
  | .jr _ | .jrCc _ _ | .jp _ | .jpCc _ _ | .jpHl | .jpIx | .jpIy | .jpuNn _ => [.r16 .pc]
  | .call _ | .callCc _ _ | .rst _ | .ret | .retCc _ | .reti => [.r16 .pc, .r16 .sp]
  | .popQq qq => [.r16 qq, .r16 .sp]
  | .pushQq _ | .pushIx | .pushIy | .ldSpHl | .ldSpIx | .ldSpIy => [.r16 .sp]
  | .addSpE _ => [.r16 .sp, .r8 .f]
  | .ldHlSpE _ => [.r16 .hl, .r8 .f]
  | .ldIxNn _ | .incIx | .decIx => [.r16 .ix]
  | .ldIyNn _ | .incIy | .decIy => [.r16 .iy]
  | .addIxPp _ => [.r16 .ix, .r8 .f]
  | .addIyPp _ => [.r16 .iy, .r8 .f]
  | .popIx => [.r16 .ix, .r16 .sp]
  | .popIy => [.r16 .iy, .r16 .sp]
  | .nop | .ldIndBcA | .ldIndDeA | .ldIndHlN _ | .ldIndNnSp _ | .stop | .ldIndHlR _ | .halt
  | .ldhIndNA _ | .ldIndCA | .ldIndNnA _ | .di | .ei | .resBIndHl _ | .setBIndHl _ | .ldIndIxR _ _
  | .ldIndIyR _ _ => []

/-- The storage cells a name stands for (spec/10_state.md R24). -/
def cellsOf : Register → List Register
  | .r8 x => [.r8 x]
  | .r16 .hl => [.r8 .h, .r8 .l]
  | .r16 .bc => [.r8 .b, .r8 .c]
  | .r16 .de => [.r8 .d, .r8 .e]
  | .r16 .af => [.r8 .a, .r8 .f]
  | .r16 x => [.r16 x]

/-! ### Stepping and hiding -/

/-- The state a fault carries, changed. -/
def Fault.mapLeft (f : State → State) : Fault → Fault
  | .registerBankError s => .registerBankError (f s)
  | .memoryUnmapped a s => .memoryUnmapped a (f s)
  | .memoryControllerError s => .memoryControllerError (f s)
  | .aluError s => .aluError (f s)

/-- The state of an outcome, changed. -/
def mapOutcome (f : State → State) : Host.Outcome State Fault Refusal → Host.Outcome State Fault Refusal
  | .next s => .next (f s)
  | .fault k => .fault (k.mapLeft f)
  | .refused r => .refused r

/-- The scope sees a registration of the backing resource at that place. -/
def State.sees (s : State) (scope : SecurityLevel) (place : Nat) : Bool :=
  s.resources.any fun r => r.backing == place && r.tag.visibleIn scope

/-- The bytes of every backing resource that the scope sees no registration of, replaced by others. -/
def State.withUnseen (s : State) (scope : SecurityLevel) (bytes : Nat → Memory) : State :=
  s.withBackings (s.backings.mapIdx fun k m => if s.sees scope k then m else { m with bytes := bytes k })

/-- IR and PIR after the bytes of an instruction have been fetched (spec/40_pipeline.md R131), PC past
them. -/
def RegisterBank.afterFetch (rb : RegisterBank) (bytes : List Byte) : RegisterBank :=
  let rb := { rb with pc := rb.pc + BitVec.ofNat 16 bytes.length }
  match bytes with
  | [] => rb
  | b0 :: rest =>
    match rest with
    | [] => { rb with ir := b0, pir := 0 }
    | b1 :: _ =>
      if b0 ∈ Config.prefixBytes then { rb with pir := b0, ir := b1 } else { rb with ir := b0, pir := 0 }

/-- The bytes stand at consecutive addresses from `a` on, modulo 2^16, in plain resources of the scope. -/
def State.holdsBytes (s : State) (scope : SecurityLevel) (a : Word) : List Byte → Prop
  | [] => True
  | b :: bs => s.plainByte scope a = some b ∧ s.holdsBytes scope (a + 1) bs

end Sys2Proof.Machine
end

