-- ==== Sys2Proof/Certificates/Slice0/Obligations.lean ====
section
/-! DEFINITION. The statements for the provers. A statement speaks of every state; where it could fail only
in states no registration call can make, it has `State.wf` as a premise, which is an invariant
(`StepKeepsRouting`). -/

open Sys2Proof Sys2Proof.Machine

/-! ### Registers and flags -/

/-- R25: a pair write followed by a pair read returns the value, and its halves are the value's bytes; AF
as the others, so F is a full cell. -/
def Obligations.PairRoundTrip : Prop :=
  ∀ (rb : RegisterBank) (v : Word),
    ((rb.set16 .hl v).get16 .hl = v ∧ (rb.set16 .hl v).get8 .h = v.extractLsb' 8 8
      ∧ (rb.set16 .hl v).get8 .l = v.extractLsb' 0 8)
    ∧ ((rb.set16 .bc v).get16 .bc = v ∧ (rb.set16 .bc v).get8 .b = v.extractLsb' 8 8
      ∧ (rb.set16 .bc v).get8 .c = v.extractLsb' 0 8)
    ∧ ((rb.set16 .de v).get16 .de = v ∧ (rb.set16 .de v).get8 .d = v.extractLsb' 8 8
      ∧ (rb.set16 .de v).get8 .e = v.extractLsb' 0 8)
    ∧ ((rb.set16 .af v).get16 .af = v ∧ (rb.set16 .af v).get8 .a = v.extractLsb' 8 8
      ∧ (rb.set16 .af v).get8 .f = v.extractLsb' 0 8)

/-- R20, R21, R24: fifteen cells. A write changes the cells its name stands for and no other, and reading
any name gives what was last written there; a name of the other width is an error. -/
def Obligations.RegisterCellsAreIndependent : Prop :=
  ∀ (rb : RegisterBank),
    (∀ (x y : Reg8) (v : Byte), (rb.set8 x v).get8 y = if y = x then v else rb.get8 y)
    ∧ (∀ (x : Reg8) (y : Reg16) (v : Byte), Register.r8 x ∉ cellsOf (.r16 y) →
        (rb.set8 x v).get16 y = rb.get16 y)
    ∧ (∀ (x : Reg16) (y : Reg8) (v : Word), Register.r8 y ∉ cellsOf (.r16 x) →
        (rb.set16 x v).get8 y = rb.get8 y)
    ∧ (∀ (x y : Reg16) (v : Word), (rb.set16 x v).get16 y = if y = x then v else rb.get16 y)
    ∧ (∀ (x : Reg16), rb.get16 x = match x with
        | .hl => rb.get8 .h ++ rb.get8 .l
        | .bc => rb.get8 .b ++ rb.get8 .c
        | .de => rb.get8 .d ++ rb.get8 .e
        | .af => rb.get8 .a ++ rb.get8 .f
        | .pc => rb.pc
        | .sp => rb.sp
        | .ix => rb.ix
        | .iy => rb.iy)
    ∧ (∀ (x : Register), (rb.read x = none ↔ isPair x = true) ∧ (rb.readPair x = none ↔ isPair x = false)
        ∧ (∀ v, rb.write x v = none ↔ isPair x = true)
        ∧ (∀ v, rb.writePair x v = none ↔ isPair x = false))

/-- R30, R31: a flag operation touches the one bit of F that its flag has (Z 7, N 6, H 5, CY 4); the other
seven bits of F and every other cell keep their value. -/
def Obligations.FlagOperationTouchesOneBit : Prop :=
  ∀ (rb : RegisterBank) (f : Flag) (v : Bool),
    let bit : Nat := match f with
      | .z => 7
      | .n => 6
      | .h => 5
      | .cy => 4
    (∀ k, (rb.writeFlag f v).f.getLsbD k = if k = bit then v else rb.f.getLsbD k)
    ∧ rb.flag f = rb.f.getLsbD bit
    ∧ rb.setFlag f = rb.writeFlag f true ∧ rb.clearFlag f = rb.writeFlag f false
    ∧ rb.writeFlag f v = { rb with f := (rb.writeFlag f v).f }

/-- R34 to R37, R414: the register-code tables, failing outside their sets, and the reverse translations. -/
def Obligations.RegisterCodeTables : Prop :=
  (∀ c : Byte, reg8OfCode c =
      if c = 0 then some .b else if c = 1 then some .c else if c = 2 then some .d
      else if c = 3 then some .e else if c = 4 then some .h else if c = 5 then some .l
      else if c = 7 then some .a else none)
  ∧ (∀ c : Byte, pairOfCode c =
      if c = 0 then some .bc else if c = 1 then some .de else if c = 2 then some .hl
      else if c = 3 then some .sp else none)
  ∧ (∀ c : Byte, stackPairOfCode c =
      if c = 0 then some .bc else if c = 1 then some .de else if c = 2 then some .hl
      else if c = 3 then some .af else none)
  ∧ (∀ c : Byte, ixPairOfCode c =
      if c = 0 then some .bc else if c = 1 then some .de else if c = 2 then some .ix
      else if c = 3 then some .sp else none)
  ∧ (∀ c : Byte, iyPairOfCode c =
      if c = 0 then some .bc else if c = 1 then some .de else if c = 2 then some .iy
      else if c = 3 then some .sp else none)
  ∧ (∀ (x : Reg8) (c : Byte), x.code = some c ↔ reg8OfCode c = some x)
  ∧ (∀ (x : Reg16) (c : Byte), x.pairCode = some c ↔ pairOfCode c = some x)
  ∧ (∀ (x : Reg16) (c : Byte), x.stackCode = some c ↔ stackPairOfCode c = some x)

/-- R51, R471: after reset the level is System, PC is RESET_PC (0x0000) and every signal is false. The
other cells are log 1's choice and are not claimed. -/
def Obligations.ResetState : Prop :=
  State.reset.level = .system ∧ State.reset.regs.pc = 0x0000
    ∧ State.reset.sig = { cis := false, halt := false, stop := false, ime := false, aborted := false,
                          umr := false, umsor := false }

/-! ### Memory -/

/-- R61, R71, R74, R75: a read resolves to the mapped register visible in the scope at the address, else to the
backing resource of the visible registration over it, at the offset a − begin, else it faults with the address and returns no value. -/
def Obligations.ReadResolution : Prop :=
  ∀ (s : State) (sc : SecurityLevel) (a : Word), s.wf →
    let seen (p : Privilege) : Prop := p = .both ∨ (p = .system ∧ sc = .system) ∨ (p = .user ∧ sc = .user)
    (∀ g ∈ s.mapped, g.address = a → seen g.tag →
      memReadScope sc a s = .ok (s.deviceValue g.device, s.afterDeviceRead g.device))
    ∧ ((∀ g ∈ s.mapped, g.address = a → ¬seen g.tag) →
      (∀ r ∈ s.resources, r.first.toNat ≤ a.toNat → a.toNat ≤ r.last.toNat → seen r.tag →
        ∃ m, s.backings[r.backing]? = some m
          ∧ memReadScope sc a s = .ok (Memory.read m.bytes (a.toNat - r.first.toNat), s))
      ∧ ((∀ r ∈ s.resources, r.first.toNat ≤ a.toNat → a.toNat ≤ r.last.toNat → ¬seen r.tag) →
        memReadScope sc a s = .error (.memoryUnmapped a s)))

/-- R61, R73, R74, R75: a write resolves the same way at the current level: the device's write and no resource
byte, or the one byte of the visible registration's backing resource, or the fault with nothing changed. -/
def Obligations.WriteResolution : Prop :=
  ∀ (s : State) (a : Word) (v : Byte), s.wf →
    let seen (p : Privilege) : Prop :=
      p = .both ∨ (p = .system ∧ s.level = .system) ∨ (p = .user ∧ s.level = .user)
    (∀ g ∈ s.mapped, g.address = a → seen g.tag →
      memWrite a v s = .ok { s with devices := devicesAfterWrite s.devices g.device v })
    ∧ ((∀ g ∈ s.mapped, g.address = a → ¬seen g.tag) →
      (∀ r ∈ s.resources, r.first.toNat ≤ a.toNat → a.toNat ≤ r.last.toNat → seen r.tag →
        memWrite a v s = .ok { s with
          backings := s.backings.modify r.backing fun m =>
            { m with bytes := Memory.write m.bytes (a.toNat - r.first.toNat) v } })
      ∧ ((∀ r ∈ s.resources, r.first.toNat ≤ a.toNat → a.toNat ≤ r.last.toNat → ¬seen r.tag) →
        memWrite a v s = .error (.memoryUnmapped a s)))

/-- R61, R68: a byte write to a resource replaces the one byte of its backing resource: it reads back at every
address, in every scope, where a registration gives that byte, be it the same registration or another of the same
backing resource; every other plain byte of every scope is as before. Within one registration that is the written
address alone. -/
def Obligations.ByteWriteReplacesOneByte : Prop :=
  ∀ (s : State) (sc : SecurityLevel) (a : Word) (v : Byte) (r : Resource), s.wf →
    s.route sc a = .resource r →
      ∀ (sc' : SecurityLevel) (b : Word),
        (s.afterWrite sc a v).plainByte sc' b
          = (if s.cellAt sc' b = some (r.backing, a.toNat - r.first.toNat) then some v
             else s.plainByte sc' b)
        ∧ (s.route sc' b = .resource r →
          (s.cellAt sc' b = some (r.backing, a.toNat - r.first.toNat) ↔ b = a))

/-- R65: a Both registration is one object seen from both scopes: a byte written at one level reads back at
the other, in a resource and in a device that stores its last byte; a System and a User registration over one
address are two objects with unrelated contents, whatever calls made them (the calls that would make them one fail:
log 23). -/
def Obligations.BothIsOneObject : Prop :=
  (∀ (s t : State) (a : Word) (v : Byte) (r : Resource), s.wf →
    s.route .system a = .resource r → r.tag = .both → s.route .user a = .resource r →
      memWrite a v s = .ok t → ∀ l, memRead a (t.withLevel l) = .ok (v, t.withLevel l))
  ∧ (∀ (s t : State) (a : Word) (v w : Byte) (g : MappedRegister), s.wf → g ∈ s.mapped → g.tag = .both →
      g.address = a → s.devices[g.device]? = some (.latch w) →
      memWrite a v s = .ok t → ∀ l, memRead a (t.withLevel l) = .ok (v, t.withLevel l))
  ∧ (∀ (s t : State) (a : Word) (v : Byte) (r q : Resource), s.wf →
    s.route .system a = .resource r → s.route .user a = .resource q → r.tag = .system → q.tag = .user →
      memWrite a v s = .ok t → ∀ l, l ≠ s.level → t.plainByte l a = s.plainByte l a)

/-- R61, R63, R64, R67, R69: when each registration call succeeds, and what it adds or removes; otherwise the
call fails and the state is as before. A call brings a new object or one brought before, so that one object may
stand at several places. The form of the reference to an object (log 15), the handle's number (log 14) and that one
object is refused over one address under System and User (log 23) are the model's choices. -/
def Obligations.RegistrationCalls : Prop :=
  ∀ s : State, s.wf →
    let clash (p q : Privilege) : Prop := p = q ∨ p = .both ∨ q = .both
    (∀ (object : ObjectRef Backing) (first last : Word) (tag : Privilege),
      let place : Nat := match object with
        | .fresh _ => s.backings.length
        | .known k => k
      let size : Option Nat := match object with
        | .fresh m => some m.size
        | .known k => (s.backings[k]?).map fun m => m.size
      let free : Prop := first.toNat ≤ last.toNat ∧ size = some (last.toNat - first.toNat + 1)
        ∧ ∀ r ∈ s.resources, ∀ a : Word, r.first.toNat ≤ a.toNat → a.toNat ≤ r.last.toNat →
            first.toNat ≤ a.toNat → a.toNat ≤ last.toNat → ¬clash r.tag tag ∧ r.backing ≠ place
      (free → hostMove (.registerResource object first last tag) s
        = .reply (.handle s.nextHandle) { s with
            backings := match object with
              | .fresh m => s.backings ++ [{ m with bytes := Memory.ofCells m.size m.bytes }]
              | .known _ => s.backings
            resources := { handle := s.nextHandle, backing := place, first := first, last := last,
                           tag := tag } :: s.resources
            nextHandle := s.nextHandle + 1 })
      ∧ (¬free → hostMove (.registerResource object first last tag) s
        = .fault (.memoryControllerError s)))
    ∧ (∀ (handle : Nat) (tag : Privilege),
      ((∃ r ∈ s.resources, r.handle = handle ∧ r.tag = tag) →
        hostMove (.unregisterResource handle tag) s
          = .reply .done { s with resources := s.resources.filter (fun r => r.handle != handle) })
      ∧ ((∀ r ∈ s.resources, ¬(r.handle = handle ∧ r.tag = tag)) →
        hostMove (.unregisterResource handle tag) s = .fault (.memoryControllerError s)))
    ∧ (∀ (object : ObjectRef Device) (a : Word) (tag : Privilege),
      let place : Nat := match object with
        | .fresh _ => s.devices.length
        | .known k => k
      let there : Prop := match object with
        | .fresh _ => True
        | .known k => k < s.devices.length
      let free : Prop := there ∧ ∀ g ∈ s.mapped, g.address = a → ¬clash g.tag tag ∧ g.device ≠ place
      (free → hostMove (.registerMapped object a tag) s
        = .reply .done { s with
            devices := match object with
              | .fresh d => s.devices ++ [d]
              | .known _ => s.devices
            mapped := { device := place, address := a, tag := tag } :: s.mapped })
      ∧ (¬free → hostMove (.registerMapped object a tag) s = .fault (.memoryControllerError s)))
    ∧ (∀ (a : Word) (tag : Privilege),
      ((∃ g ∈ s.mapped, g.address = a ∧ g.tag = tag) →
        ∃ gs, hostMove (.unregisterMapped a tag) s = .reply .done { s with mapped := gs }
          ∧ ∀ g, g ∈ gs ↔ g ∈ s.mapped ∧ ¬(g.address = a ∧ g.tag = tag))
      ∧ ((∀ g ∈ s.mapped, ¬(g.address = a ∧ g.tag = tag)) →
        hostMove (.unregisterMapped a tag) s = .fault (.memoryControllerError s)))

/-- R432, R82, R430: a failing registration call, or a failing Load, changes nothing and tells its caller, and the
registrations are as they were. That the outer loop goes on with its other moves after it is the model's choice
(log 13). -/
def Obligations.FailingRegistrationChangesNothing : Prop :=
  ∀ (s : State) (m : HostMove) (f : Fault),
    (match m with
      | .registerResource _ _ _ _ => True
      | .unregisterResource _ _ => True
      | .registerMapped _ _ _ => True
      | .unregisterMapped _ _ => True
      | .load _ _ _ => True
      | _ => False) →
    hostMove m s = .fault f →
      f = .memoryControllerError s ∧ ∀ ms, runHostMoves (m :: ms) s = runHostMoves ms s

/-- R81: a host word access is two byte accesses, low byte at the lower address and first, each resolved on its
own, the address after 0xFFFF being 0x0000. That the first access has happened where the second faults is the
model's inference (log 21), and the state that a fault's value carries is the model's form (log 6). -/
def Obligations.WordAccessIsLittleEndian : Prop :=
  ∀ (s : State) (a v : Word),
    let low : Byte := v.extractLsb' 0 8
    let read := s.afterRead s.level a
    let wrote := s.afterWrite s.level a low
    (s.accessible s.level a = true → s.accessible s.level (a + 1) = true →
      hostMove (.readWord a) s
        = .reply (.word (read.readValue s.level (a + 1) ++ s.readValue s.level a))
            (read.afterRead s.level (a + 1))
      ∧ hostMove (.writeWord a v) s
        = .reply .done (wrote.afterWrite s.level (a + 1) (v.extractLsb' 8 8)))
    ∧ (s.accessible s.level a = true → s.accessible s.level (a + 1) = false →
      hostMove (.readWord a) s = .fault (.memoryUnmapped (a + 1) read)
      ∧ hostMove (.writeWord a v) s = .fault (.memoryUnmapped (a + 1) wrote))
    ∧ (s.accessible s.level a = false →
      hostMove (.readWord a) s = .fault (.memoryUnmapped a s)
      ∧ hostMove (.writeWord a v) s = .fault (.memoryUnmapped a s))

/-- R82: Load puts the buffer into the resource visible at the destination, mapped registers ignored, when it
fits, and otherwise fails and changes nothing; a bank offset is refused. -/
def Obligations.LoadFillsTheResource : Prop :=
  ∀ (s : State) (buffer : List Byte) (dest : Word), s.wf →
    (∀ r, s.resourceAt s.level dest = some r →
      let k := dest.toNat - r.first.toNat
      (k + buffer.length ≤ r.last.toNat - r.first.toNat + 1 →
        ∃ m bytes, s.backings[r.backing]? = some m
          ∧ hostMove (.load buffer dest none) s
            = .reply .done { s with backings := s.backings.set r.backing { m with bytes := bytes } }
          ∧ ∀ j, Memory.read bytes j
              = if k ≤ j then (buffer[j - k]?).getD (Memory.read m.bytes j) else Memory.read m.bytes j)
      ∧ (r.last.toNat - r.first.toNat + 1 < k + buffer.length →
        hostMove (.load buffer dest none) s = .fault (.memoryControllerError s)))
    ∧ (s.resourceAt s.level dest = none →
      hostMove (.load buffer dest none) s = .fault (.memoryControllerError s))
    ∧ (∀ k, hostMove (.load buffer dest (some k)) s = .refused .loadWithBankOffset)

/-- R92: the LCD control register calls EnableVideo once on a rising edge of bit 7, DisableVideo once on a
falling one, and nothing when the bit does not change. (Counting the calls is the model's form, log 9.) -/
def Obligations.LcdControlEdges : Prop :=
  ∀ (last v : Byte) (enables disables : Nat),
    writeLcdControl last enables disables v
      = .lcdControl v
          (enables + if last.getLsbD 7 = false ∧ v.getLsbD 7 = true then 1 else 0)
          (disables + if last.getLsbD 7 = true ∧ v.getLsbD 7 = false then 1 else 0)

/-! ### Encoding -/

/-- A few words written out from the pages of R105 to R109: bytes, lowest address first, to instructions. -/
def Obligations.DecodedWords : Prop :=
  decode [0x41] = .ok (.ldRR .b .c, [])
  ∧ decode [0x08, 0x00, 0xC3] = .ok (.ldIndNnSp 0xC300, [])
  ∧ decode [0x34] = .ok (.incIndHl, [])
  ∧ decode [0xE8, 0xFF] = .ok (.addSpE 0xFF, [])
  ∧ decode [0xCB, 0x7E] = .ok (.bitBIndHl 7, [])
  ∧ decode [0xDA, 0x00, 0x80] = .ok (.jpCc .c 0x8000, [])
  ∧ decode [0xFC, 0xC3, 0x00, 0x40] = .ok (.jpuNn 0x4000, [])
  ∧ decode [0xFD, 0x71, 0x80] = .ok (.ldIndIyR 0x80 .c, [])
  ∧ decode [0xD3] = .error (.unmapped 0x00 0xD3)

/-- R100 to R109: for every well-formed instruction, with every operand at every value its field or its
operand bytes admit, decoding its bytes gives it back and leaves what follows. -/
def Obligations.DecodeOfEncode : Prop :=
  ∀ i : Instr, i.wellFormed = true →
    ∃ bytes, encode i = some bytes ∧ ∀ rest, decode (bytes ++ rest) = .ok (i, rest)

/-- The other direction: what decodes is well formed, and its encoding is the bytes it was read from. -/
def Obligations.EncodeOfDecode : Prop :=
  ∀ (bytes rest : List Byte) (i : Instr), decode bytes = .ok (i, rest) →
    i.wellFormed = true ∧ ∃ own, encode i = some own ∧ bytes = own ++ rest

/-- R105, R107 to R110, R116: every key matches at most one row; 244 entries of the primary page are mapped,
256 of page 0xCB, 33 of each index page, 12 of page 0xFC, by 145 rows. -/
def Obligations.OpcodeTableIsUnambiguous : Prop :=
  let all : List Row := primaryRows ++ cbRows ++ ddRows ++ fdRows ++ fcRows
  let count (pir : Byte) : Nat :=
    ((List.range 256).filter fun k => all.any fun row => row.accepts pir (BitVec.ofNat 8 k)).length
  all.length = 145
    ∧ (∀ pir ir : Byte, (all.filter fun row => row.accepts pir ir).length ≤ 1)
    ∧ count 0x00 = 244 ∧ count 0xCB = 256 ∧ count 0xDD = 33 ∧ count 0xFD = 33 ∧ count 0xFC = 12

/-! ### The cycle -/

/-- R132: after fetch of a prefix byte PIR holds it, IR the following byte, and PC has advanced by 2; of any
other byte, IR holds it, PIR is 0, and PC has advanced by 1. -/
def Obligations.FetchProperty : Prop :=
  ∀ s : State, s.accessible s.level s.regs.pc = true →
    let b0 := s.readValue s.level s.regs.pc
    let s1 := s.afterRead s.level s.regs.pc
    (b0 ∈ ([0xCB, 0xDD, 0xFD, 0xFC] : List Byte) → s.accessible s.level (s.regs.pc + 1) = true →
      ∃ t, fetchOpcode s = .ok t
        ∧ t.regs = { s.regs with
            pir := b0
            ir := s1.readValue s.level (s.regs.pc + 1)
            pc := s.regs.pc + 2 })
    ∧ (b0 ∉ ([0xCB, 0xDD, 0xFD, 0xFC] : List Byte) →
      ∃ t, fetchOpcode s = .ok t ∧ t.regs = { s.regs with pir := 0, ir := b0, pc := s.regs.pc + 1 })

/-- R110, R113, R134: an unmapped opcode is a no-op cycle: PC, IR, PIR change, the transient signals and
`sig.umsor` read false, `sig.ime` and everything else is kept, and no operand byte is consumed. -/
def Obligations.UnmappedOpcodeIsNoOp : Prop :=
  ∀ (s : State) (b0 b1 : Byte), s.plainByte s.level s.regs.pc = some b0 →
    (b0 ∈ ([0xD3, 0xDB, 0xE3, 0xE4, 0xEB, 0xEC, 0xED, 0xF4] : List Byte) →
      runCycle s = .next (s.done { s.regs with pc := s.regs.pc + 1, ir := b0, pir := 0 }))
    ∧ (s.plainByte s.level (s.regs.pc + 1) = some b1 →
      (b0 = 0xDD ∨ b0 = 0xFD) ∧ b1 ∉ ([0x09, 0x19, 0x29, 0x39, 0x21, 0x23, 0x2B, 0x46, 0x4E, 0x56, 0x5E,
        0x66, 0x6E, 0x7E, 0x70, 0x71, 0x72, 0x73, 0x74, 0x75, 0x77, 0x86, 0x8E, 0x96, 0x9E, 0xA6, 0xAE,
        0xB6, 0xBE, 0xE1, 0xE5, 0xE9, 0xF9] : List Byte)
      ∨ b0 = 0xFC ∧ b1 ∉ ([0x46, 0x4E, 0x56, 0x5E, 0x66, 0x6E, 0x7E, 0x0A, 0x1A, 0x2A, 0x3A, 0xC3] :
          List Byte) →
      runCycle s = .next (s.done { s.regs with pc := s.regs.pc + 2, ir := b1, pir := b0 }))

/-- R130, R173: where the bytes at PC decode to an instruction, the step is that instruction's meaning, in the
state with PC past its bytes, IR and PIR written and `sig.umsor` decided. The outer loop has answered the
last signals before (`answerSignals`) and has no other move lined up: its turn within a step is the model's
choice (log 7). -/
def Obligations.StepRunsTheDecodedInstruction : Prop :=
  ∀ (s : State) (bytes : List Byte) (i : Instr), s.hostMoves = [] → decode bytes = .ok (i, []) →
    (answerSignals s).holdsBytes (answerSignals s).level s.regs.pc bytes →
      step s = exec i (((answerSignals s).withRegs (s.regs.afterFetch bytes)).withUmsor i.isLdu)

/-- R149, R139: every one of the 25 modes has a descriptor; its step flags are those of the four increment and
decrement modes, each as its name says, and of the source pair mode, which increments; no other mode has one. -/
def Obligations.EveryModeHasADescriptor : Prop :=
  ∀ m : AddressingMode, ∃ t, traitsOf m = some t
    ∧ (t.incSrc = true ↔ m = .registerIndirectSourceIncrement ∨ m = .registerIndirectSourcePair)
    ∧ (t.decSrc = true ↔ m = .registerIndirectSourceDecrement)
    ∧ (t.incDst = true ↔ m = .registerIndirectDestinationIncrement)
    ∧ (t.decDst = true ↔ m = .registerIndirectDestinationDecrement)

/-- R162, R46, R135, R153: which signals are true after an instruction that completed: halt, stop, cis and umr
by the one identity each, ime by EI and DI and otherwise kept, umsor by the five LDU, aborted exactly when a
conditional instruction's condition failed. -/
def Obligations.SignalsFollowTheOpcode : Prop :=
  ∀ (i : Instr) (s t : State), exec i s = .next t →
    (t.sig.halt = true ↔ i = .halt) ∧ (t.sig.stop = true ↔ i = .stop) ∧ (t.sig.cis = true ↔ i = .reti)
    ∧ (t.sig.umr = true ↔ ∃ nn, i = .jpuNn nn)
    ∧ t.sig.ime = (if i = .ei then true else if i = .di then false else s.sig.ime)
    ∧ (t.sig.umsor = true ↔ (∃ r, i = .lduRIndHl r) ∨ i = .lduAIndBc ∨ i = .lduAIndDe
        ∨ i = .lduAIndHlInc ∨ i = .lduAIndHlDec)
    ∧ (t.sig.aborted = true ↔ ∃ cc, conditionOf i = some cc ∧ condHolds cc s.regs.f = false)

/-! ### The whole machine -/

/-- R26, R27, R40, R41, R66: no instruction changes the level, a registration, the outer loop, IR, PIR or R,
whether it completes or faults. -/
def Obligations.ExecKeepsLevelAndRouting : Prop :=
  ∀ (i : Instr) (s t : State), i.wellFormed = true →
    (exec i s = .next t ∨ ∃ f, exec i s = .fault f ∧ f.left = t) →
      s.SameRouting t ∧ t.regs.ir = s.regs.ir ∧ t.regs.pir = s.regs.pir ∧ t.regs.r = s.regs.r

/-- R32 and the instruction rules: every register cell but those the instruction writes is unchanged. F is
among the written ones only where the spec gives the instruction a flag to write; PC only for a transfer. -/
def Obligations.RegisterFrame : Prop :=
  ∀ (i : Instr) (s t : State), exec i s = .next t →
    let cells := (writtenRegisters i).flatMap cellsOf
    (∀ x : Reg8, .r8 x ∉ cells → t.regs.get8 x = s.regs.get8 x)
    ∧ (.r16 .pc ∉ cells → t.regs.pc = s.regs.pc) ∧ (.r16 .sp ∉ cells → t.regs.sp = s.regs.sp)
    ∧ (.r16 .ix ∉ cells → t.regs.ix = s.regs.ix) ∧ (.r16 .iy ∉ cells → t.regs.iy = s.regs.iy)

/-- R61, R68, R73, R80: every byte of memory, at every address of both scopes, reads as before unless an address
the instruction stores to, at the current level, is that same byte of the same backing resource (itself, or where a
resource is registered twice); an instruction that stores nothing changes no byte. Where each scope has each
byte does not change. -/
def Obligations.MemoryFrame : Prop :=
  ∀ (i : Instr) (s t : State), exec i s = .next t →
    ∀ (sc : SecurityLevel) (b : Word), t.cellAt sc b = s.cellAt sc b
      ∧ ((s.cellAt sc b = none ∨ ∀ a ∈ storedAddresses i s.regs, s.cellAt s.level a ≠ s.cellAt sc b) →
        t.plainByte sc b = s.plainByte sc b)

/-- R33: bits 3 to 0 of F are changed by POP AF and by no other instruction. -/
def Obligations.LowFlagBitsKept : Prop :=
  ∀ (i : Instr) (s t : State), i.wellFormed = true → i ≠ .popQq .af → exec i s = .next t →
    t.regs.f &&& 0x0F = s.regs.f &&& 0x0F

/-- R430: the only fault an instruction can provoke is MemoryUnmapped, at an address that the current level
or, for LDU, User does not map; and no instruction is refused. -/
def Obligations.OnlyMemoryUnmapped : Prop :=
  ∀ (i : Instr) (s : State), i.wellFormed = true →
    (∃ t, exec i s = .next t)
    ∨ ∃ a t, exec i s = .fault (.memoryUnmapped a t)
        ∧ (s.accessible s.level a = false ∨ i.isLdu = true ∧ s.accessible .user a = false)

/-- R430, R434, R110: a step with no host move lined up completes or ends in MemoryUnmapped: whatever the
bytes at PC are, there is no other fault and no refusal. (The fault's state is the model's form, log 6.) -/
def Obligations.StepCompletesOrUnmapped : Prop :=
  ∀ s : State, s.hostMoves = [] → (∃ t, step s = .next t) ∨ ∃ a t, step s = .fault (.memoryUnmapped a t)

/-- R63, R64, R67, R69: the routing tables stay as registrations can make them, over every step, host moves
included: ranges and sizes, canonical bytes, no two registrations of a kind visible together. -/
def Obligations.StepKeepsRouting : Prop :=
  ∀ s t : State, s.wf → step s = .next t → t.wf

/-- The invariant of `StepKeepsRouting` holds after reset, for the routing tables of log 3, the model's choice. -/
def Obligations.ResetRouting : Prop := State.reset.wf

/-- R69: "in each scope at most one resource and at most one mapped register is visible at any address". -/
def Obligations.AtMostOneVisible : Prop :=
  ∀ s : State, s.wf → ∀ (sc : SecurityLevel) (a : Word),
    (∀ r ∈ s.resources, ∀ q ∈ s.resources, r.covers sc a = true → q.covers sc a = true → r = q)
    ∧ (s.mapped.filter fun g => g.standsAt sc a).length ≤ 1

/-- R443, R444: under the reference outer loop and without other host moves, a machine at User stays at User,
and one at System changes to User only to answer `sig.umr`. The outer loop in State is the model's choice
(log 7). -/
def Obligations.UserStaysUser : Prop :=
  ∀ s t : State, s.hostMoves = [] → step s = .next t →
    t.hostMoves = [] ∧ (s.level = .user → t.level = .user)
    ∧ (s.level = .system → t.level = .user → s.sig.umr = true ∧ s.outerLoop = .reference)

/-- R62, R91, R444: the bytes of resources that the scope in use sees no registration of play no part: at User no
step reads or changes a byte of a resource registered for System alone, and at System no instruction but LDU
reads or changes a byte of one registered for User alone. -/
def Obligations.HiddenBytesPlayNoPart : Prop :=
  (∀ (s : State) (bytes : Nat → Memory), s.hostMoves = [] → s.level = .user →
    step (s.withUnseen .user bytes) = mapOutcome (fun t => t.withUnseen .user bytes) (step s))
  ∧ (∀ (i : Instr) (s : State) (bytes : Nat → Memory), i.isLdu = false → s.level = .system →
    exec i (s.withUnseen .system bytes) = mapOutcome (fun t => t.withUnseen .system bytes) (exec i s))

/-! ### Results: loads -/

/-- R201 to R203, R206, R207, R210, R211, R214, R216, R218, R402: every load of an 8-bit register, its result
and everything else it changes; the pair of (HL+) and (HL-) is stepped before the register is written. -/
def Obligations.ByteLoads : Prop :=
  (∀ r r', RegisterOnly (.ldRR r r') fun rb => rb.set8 r (rb.get8 r'))
  ∧ (∀ r n, RegisterOnly (.ldRN r n) fun rb => rb.set8 r n)
  ∧ (∀ r, ReadsByte (.ldRIndHl r) (fun rb => rb.get16 .hl) fun rb v => rb.set8 r v)
  ∧ ReadsByte .ldAIndBc (fun rb => rb.get16 .bc) (fun rb v => { rb with a := v })
  ∧ ReadsByte .ldAIndDe (fun rb => rb.get16 .de) (fun rb v => { rb with a := v })
  ∧ ReadsByte .ldAIndHlInc (fun rb => rb.get16 .hl)
      (fun rb v => { rb.set16 .hl (rb.get16 .hl + 1) with a := v })
  ∧ ReadsByte .ldAIndHlDec (fun rb => rb.get16 .hl)
      (fun rb v => { rb.set16 .hl (rb.get16 .hl - 1) with a := v })
  ∧ (∀ nn, ReadsByte (.ldAIndNn nn) (fun _ => nn) fun rb v => { rb with a := v })
  ∧ ReadsByte .ldAIndC (fun rb => (0xFF : Byte) ++ rb.c) (fun rb v => { rb with a := v })
  ∧ (∀ n : Byte, ReadsByte (.ldhAIndN n) (fun _ => (0xFF : Byte) ++ n) fun rb v => { rb with a := v })
  ∧ (∀ r d, ReadsByte (.ldRIndIx r d) (fun rb => rb.ix + d.signExtend 16) fun rb v => rb.set8 r v)
  ∧ (∀ r d, ReadsByte (.ldRIndIy r d) (fun rb => rb.iy + d.signExtend 16) fun rb v => rb.set8 r v)

/-- R204, R205, R208, R209, R212, R213, R215, R217, R219, R403: every store of a byte: where, which byte, and
that nothing else changes but the pair of (HL+) and (HL-), stepped after the store. -/
def Obligations.ByteStores : Prop :=
  (∀ r, WritesByte (.ldIndHlR r) (fun rb => rb.get16 .hl) (fun rb => rb.get8 r) id)
  ∧ (∀ n, WritesByte (.ldIndHlN n) (fun rb => rb.get16 .hl) (fun _ => n) id)
  ∧ WritesByte .ldIndBcA (fun rb => rb.get16 .bc) (fun rb => rb.a) id
  ∧ WritesByte .ldIndDeA (fun rb => rb.get16 .de) (fun rb => rb.a) id
  ∧ WritesByte .ldIndHlIncA (fun rb => rb.get16 .hl) (fun rb => rb.a)
      (fun rb => rb.set16 .hl (rb.get16 .hl + 1))
  ∧ WritesByte .ldIndHlDecA (fun rb => rb.get16 .hl) (fun rb => rb.a)
      (fun rb => rb.set16 .hl (rb.get16 .hl - 1))
  ∧ (∀ nn, WritesByte (.ldIndNnA nn) (fun _ => nn) (fun rb => rb.a) id)
  ∧ WritesByte .ldIndCA (fun rb => (0xFF : Byte) ++ rb.c) (fun rb => rb.a) id
  ∧ (∀ n : Byte, WritesByte (.ldhIndNA n) (fun _ => (0xFF : Byte) ++ n) (fun rb => rb.a) id)
  ∧ (∀ d r, WritesByte (.ldIndIxR d r) (fun rb => rb.ix + d.signExtend 16) (fun rb => rb.get8 r) id)
  ∧ (∀ d r, WritesByte (.ldIndIyR d r) (fun rb => rb.iy + d.signExtend 16) (fun rb => rb.get8 r) id)

/-- R241, R242, R401, R417: the 16-bit loads of a register pair. -/
def Obligations.WordLoads : Prop :=
  (∀ dd nn, RegisterOnly (.ldDdNn dd nn) fun rb => rb.set16 dd nn)
  ∧ (∀ nn, RegisterOnly (.ldIxNn nn) fun rb => { rb with ix := nn })
  ∧ (∀ nn, RegisterOnly (.ldIyNn nn) fun rb => { rb with iy := nn })
  ∧ RegisterOnly .ldSpHl (fun rb => { rb with sp := rb.h ++ rb.l })
  ∧ RegisterOnly .ldSpIx (fun rb => { rb with sp := rb.ix })
  ∧ RegisterOnly .ldSpIy (fun rb => { rb with sp := rb.iy })

/-- R243, R245, R415, R167, R170, R491: the stores of a pair, their order and their faults: LD (nn),SP writes
the low byte at nn first; a push writes the high byte at SP − 1, then the low byte at SP − 2, and only then
stores SP. (A fault's value carries the state left: log 6.) -/
def Obligations.PairStores : Prop :=
  (∀ nn, WritesTwoBytes (.ldIndNnSp nn) (fun _ => nn) (fun _ => nn + 1)
    (fun rb => rb.sp.extractLsb' 0 8) (fun rb => rb.sp.extractLsb' 8 8) id id)
  ∧ (∀ qq, WritesTwoBytes (.pushQq qq) (fun rb => rb.sp - 2 + 1) (fun rb => rb.sp - 2)
    (fun rb => (rb.get16 qq).extractLsb' 8 8) (fun rb => (rb.get16 qq).extractLsb' 0 8) id
    (fun rb => { rb with sp := rb.sp - 2 }))
  ∧ WritesTwoBytes .pushIx (fun rb => rb.sp - 2 + 1) (fun rb => rb.sp - 2)
    (fun rb => rb.ix.extractLsb' 8 8) (fun rb => rb.ix.extractLsb' 0 8) id
    (fun rb => { rb with sp := rb.sp - 2 })
  ∧ WritesTwoBytes .pushIy (fun rb => rb.sp - 2 + 1) (fun rb => rb.sp - 2)
    (fun rb => rb.iy.extractLsb' 8 8) (fun rb => rb.iy.extractLsb' 0 8) id
    (fun rb => { rb with sp := rb.sp - 2 })

/-- R246, R416, R33: the pops: the two bytes at SP and SP + 1, low byte first, into the pair; POP AF loads all
eight bits of F. -/
def Obligations.PairPops : Prop :=
  (∀ qq : Reg16, ReadsStack (.popQq qq) (fun rb v => ({ rb with sp := rb.sp + 2 }).set16 qq v) fun _ g => g)
  ∧ ReadsStack .popIx (fun rb v => { rb with sp := rb.sp + 2, ix := v }) (fun _ g => g)
  ∧ ReadsStack .popIy (fun rb v => { rb with sp := rb.sp + 2, iy := v }) (fun _ g => g)

/-- R244, R304: LD HL,SP+e and ADD SP,e: the signed sum, Z and N cleared, H and CY the carries out of bits 3
and 7 of the unsigned low-byte addition. -/
def Obligations.StackPointerPlusDisplacement : Prop :=
  let f (rb : RegisterBank) (e : Byte) : Byte :=
    flagByte rb.f false false
      (decide ((rb.sp &&& 0x000F).toNat + (e &&& 0x0F).toNat > 0x0F))
      (decide ((rb.sp &&& 0x00FF).toNat + e.toNat > 0xFF))
  (∀ e : Byte, RegisterOnly (.ldHlSpE e) fun rb =>
    ({ rb with f := f rb e }).set16 .hl (rb.sp + e.signExtend 16))
  ∧ (∀ e : Byte, RegisterOnly (.addSpE e) fun rb =>
    { rb with f := f rb e, sp := rb.sp + e.signExtend 16 })

/-! ### Results: arithmetic and logic -/

/-- R260, R261 to R266, R404, R405: ADD and ADC in all five operand forms. -/
def Obligations.AddResults : Prop :=
  let sum (cin : RegisterBank → Nat) (rb : RegisterBank) (v : Byte) : RegisterBank :=
    let res : Byte := rb.a + v + BitVec.ofNat 8 (cin rb)
    { rb with
      a := res
      f := flagByte rb.f (res == 0) false
        (decide ((rb.a &&& 0x0F).toNat + (v &&& 0x0F).toNat + cin rb > 0x0F))
        (decide (rb.a.toNat + v.toNat + cin rb > 0xFF)) }
  OperandForms .addAR .addAIndHl .addAN .addAIndIx .addAIndIy (sum fun _ => 0)
  ∧ OperandForms .adcAR .adcAIndHl .adcAN .adcAIndIx .adcAIndIy
      (sum fun rb => if rb.f.getLsbD 4 then 1 else 0)

/-- R260, R267 to R272, R282 to R284, R406, R407, R411: SUB, SBC and CP in all five operand forms; CP writes
the flags of SUB and leaves A. -/
def Obligations.SubtractResults : Prop :=
  let diff (cin : RegisterBank → Nat) (rb : RegisterBank) (v : Byte) : RegisterBank :=
    let res : Byte := rb.a - v - BitVec.ofNat 8 (cin rb)
    { rb with
      a := res
      f := flagByte rb.f (res == 0) true
        (decide ((rb.a &&& 0x0F).toNat < (v &&& 0x0F).toNat + cin rb))
        (decide (rb.a.toNat < v.toNat + cin rb)) }
  OperandForms .subR .subIndHl .subN .subIndIx .subIndIy (diff fun _ => 0)
  ∧ OperandForms .sbcAR .sbcAIndHl .sbcAN .sbcAIndIx .sbcAIndIy
      (diff fun rb => if rb.f.getLsbD 4 then 1 else 0)
  ∧ OperandForms .cpR .cpIndHl .cpN .cpIndIx .cpIndIy
      (fun rb v => { diff (fun _ => 0) rb v with a := rb.a })

/-- R260, R273 to R281, R408 to R410: AND, XOR and OR in all five operand forms. -/
def Obligations.LogicResults : Prop :=
  let logic (h : Bool) (res : Byte) (rb : RegisterBank) : RegisterBank :=
    { rb with a := res, f := flagByte rb.f (res == 0) false h false }
  OperandForms .andR .andIndHl .andN .andIndIx .andIndIy (fun rb v => logic true (rb.a &&& v) rb)
  ∧ OperandForms .xorR .xorIndHl .xorN .xorIndIx .xorIndIy (fun rb v => logic false (rb.a ^^^ v) rb)
  ∧ OperandForms .orR .orIndHl .orN .orIndIx .orIndIy (fun rb v => logic false (rb.a ||| v) rb)

/-- R285 to R288: the 8-bit INC and DEC of a register and of the byte at HL; CY is not changed. -/
def Obligations.IncrementResults : Prop :=
  let inc (rb : RegisterBank) (v : Byte) : RegisterBank :=
    { rb with f := flagByte rb.f (v + 1 == 0) false (v &&& 0x0F == 0x0F) (rb.f.getLsbD 4) }
  let dec (rb : RegisterBank) (v : Byte) : RegisterBank :=
    { rb with f := flagByte rb.f (v - 1 == 0) true (v &&& 0x0F == 0x00) (rb.f.getLsbD 4) }
  (∀ r, RegisterOnly (.incR r) fun rb => (inc rb (rb.get8 r)).set8 r (rb.get8 r + 1))
  ∧ UpdatesByte .incIndHl (fun rb => rb.get16 .hl) (fun _ v => v + 1) inc
  ∧ (∀ r, RegisterOnly (.decR r) fun rb => (dec rb (rb.get8 r)).set8 r (rb.get8 r - 1))
  ∧ UpdatesByte .decIndHl (fun rb => rb.get16 .hl) (fun _ v => v - 1) dec

/-- R301 to R303, R412 to R414: 16-bit addition (H out of bit 11, CY out of bit 15, Z kept), increment and
decrement (no flag). -/
def Obligations.WordArithmetic : Prop :=
  let f (rb : RegisterBank) (a b : Word) : Byte :=
    flagByte rb.f (rb.f.getLsbD 7) false
      (decide ((a &&& 0x0FFF).toNat + (b &&& 0x0FFF).toNat > 0x0FFF))
      (decide (a.toNat + b.toNat > 0xFFFF))
  (∀ ss, RegisterOnly (.addHlSs ss) fun rb =>
    ({ rb with f := f rb (rb.get16 .hl) (rb.get16 ss) }).set16 .hl (rb.get16 .hl + rb.get16 ss))
  ∧ (∀ pp, RegisterOnly (.addIxPp pp) fun rb =>
    { rb with f := f rb rb.ix (rb.get16 pp), ix := rb.ix + rb.get16 pp })
  ∧ (∀ pp, RegisterOnly (.addIyPp pp) fun rb =>
    { rb with f := f rb rb.iy (rb.get16 pp), iy := rb.iy + rb.get16 pp })
  ∧ (∀ ss, RegisterOnly (.incSs ss) fun rb => rb.set16 ss (rb.get16 ss + 1))
  ∧ (∀ ss, RegisterOnly (.decSs ss) fun rb => rb.set16 ss (rb.get16 ss - 1))
  ∧ RegisterOnly .incIx (fun rb => { rb with ix := rb.ix + 1 })
  ∧ RegisterOnly .decIx (fun rb => { rb with ix := rb.ix - 1 })
  ∧ RegisterOnly .incIy (fun rb => { rb with iy := rb.iy + 1 })
  ∧ RegisterOnly .decIy (fun rb => { rb with iy := rb.iy - 1 })

/-- R305: DAA, for every A and every flag combination. -/
def Obligations.DecimalAdjust : Prop :=
  RegisterOnly .daa fun rb =>
    let n := rb.f.getLsbD 6
    let low : Byte :=
      if rb.f.getLsbD 5 || (!n && decide ((rb.a &&& 0x0F).toNat > 0x09)) then 0x06 else 0x00
    let high : Byte := if rb.f.getLsbD 4 || (!n && decide (rb.a.toNat > 0x99)) then 0x60 else 0x00
    let res : Byte := if n then rb.a - high - low else rb.a + high + low
    { rb with a := res, f := flagByte rb.f (res == 0) n false (high == 0x60) }

/-- R306 to R309: CPL, SCF, CCF and NOP. -/
def Obligations.AccumulatorAndFlagOperations : Prop :=
  RegisterOnly .cpl (fun rb =>
    { rb with a := ~~~rb.a, f := flagByte rb.f (rb.f.getLsbD 7) true true (rb.f.getLsbD 4) })
  ∧ RegisterOnly .scf (fun rb => { rb with f := flagByte rb.f (rb.f.getLsbD 7) false false true })
  ∧ RegisterOnly .ccf (fun rb =>
    { rb with f := flagByte rb.f (rb.f.getLsbD 7) false false (!rb.f.getLsbD 4) })
  ∧ RegisterOnly .nop id

/-! ### Results: rotates, shifts, bits -/

/-- R320 to R324: the accumulator rotates: Z is 0 whatever the result. -/
def Obligations.AccumulatorRotates : Prop :=
  let rot (i : Instr) (res : Byte → Bool → Byte) (out : Nat) : Prop :=
    RegisterOnly i fun rb =>
      { rb with
        a := res rb.a (rb.f.getLsbD 4)
        f := flagByte rb.f false false false (rb.a.getLsbD out) }
  rot .rlca (fun v _ => v.rotateLeft 1) 7
  ∧ rot .rrca (fun v _ => v.rotateRight 1) 0
  ∧ rot .rla (fun v c => (v <<< 1) ||| (BitVec.ofBool c).setWidth 8) 7
  ∧ rot .rra (fun v c => (v >>> 1) ||| ((BitVec.ofBool c).setWidth 8 <<< 7)) 0

/-- R320, R325 to R340: the eight rotates and shifts of page 0xCB, on a register and on the byte at HL, their
results and flags. -/
def Obligations.RotatesAndShifts : Prop :=
  let both (r : Reg8 → Instr) (hl : Instr) (res : Byte → Bool → Byte) (out : Byte → Bool) : Prop :=
    let value (rb : RegisterBank) (v : Byte) : Byte := res v (rb.f.getLsbD 4)
    let flags (rb : RegisterBank) (v : Byte) : RegisterBank :=
      { rb with f := flagByte rb.f (value rb v == 0) false false (out v) }
    (∀ x, RegisterOnly (r x) fun rb => (flags rb (rb.get8 x)).set8 x (value rb (rb.get8 x)))
    ∧ UpdatesByte hl (fun rb => rb.get16 .hl) value flags
  both .rlcR .rlcIndHl (fun v _ => v.rotateLeft 1) (fun v => v.getLsbD 7)
  ∧ both .rrcR .rrcIndHl (fun v _ => v.rotateRight 1) (fun v => v.getLsbD 0)
  ∧ both .rlR .rlIndHl (fun v c => (v <<< 1) ||| (BitVec.ofBool c).setWidth 8) (fun v => v.getLsbD 7)
  ∧ both .rrR .rrIndHl (fun v c => (v >>> 1) ||| ((BitVec.ofBool c).setWidth 8 <<< 7))
      (fun v => v.getLsbD 0)
  ∧ both .slaR .slaIndHl (fun v _ => v <<< 1) (fun v => v.getLsbD 7)
  ∧ both .sraR .sraIndHl (fun v _ => v.sshiftRight 1) (fun v => v.getLsbD 0)
  ∧ both .swapR .swapIndHl (fun v _ => v.rotateLeft 4) (fun _ => false)
  ∧ both .srlR .srlIndHl (fun v _ => v >>> 1) (fun v => v.getLsbD 0)

/-- R341 to R346: BIT writes Z, N, H and no register or byte; RES and SET change one bit and no flag. -/
def Obligations.BitOperations : Prop :=
  let test (b : BitVec 3) (rb : RegisterBank) (v : Byte) : RegisterBank :=
    { rb with f := flagByte rb.f (!v.getLsbD b.toNat) false true (rb.f.getLsbD 4) }
  let mask (b : BitVec 3) : Byte := (1 : Byte) <<< b.toNat
  (∀ b r, RegisterOnly (.bitBR b r) fun rb => test b rb (rb.get8 r))
  ∧ (∀ b, ReadsByte (.bitBIndHl b) (fun rb => rb.get16 .hl) (test b))
  ∧ (∀ b r, RegisterOnly (.resBR b r) fun rb => rb.set8 r (rb.get8 r &&& ~~~mask b))
  ∧ (∀ b, UpdatesByte (.resBIndHl b) (fun rb => rb.get16 .hl) (fun _ v => v &&& ~~~mask b) fun rb _ => rb)
  ∧ (∀ b r, RegisterOnly (.setBR b r) fun rb => rb.set8 r (rb.get8 r ||| mask b))
  ∧ (∀ b, UpdatesByte (.setBIndHl b) (fun rb => rb.get16 .hl) (fun _ v => v ||| mask b) fun rb _ => rb)

/-! ### Results: control transfer -/

/-- R350 to R356, R418: jumps. A conditional one whose condition fails leaves PC at the next instruction and
raises `sig.aborted`; no flag, no other register, no memory is touched. -/
def Obligations.Jumps : Prop :=
  (∀ nn, RegisterOnly (.jp nn) fun rb => { rb with pc := nn })
  ∧ RegisterOnly .jpHl (fun rb => { rb with pc := rb.h ++ rb.l })
  ∧ RegisterOnly .jpIx (fun rb => { rb with pc := rb.ix })
  ∧ RegisterOnly .jpIy (fun rb => { rb with pc := rb.iy })
  ∧ (∀ e : Byte, RegisterOnly (.jr e) fun rb => { rb with pc := rb.pc + e.signExtend 16 })
  ∧ (∀ (cc : Cond) (nn : Word) (s : State), exec (.jpCc cc nn) s = .next
      (if condHolds cc s.regs.f then s.done { s.regs with pc := nn }
       else s.withSig { s.sig.quiet false with aborted := true }))
  ∧ (∀ (cc : Cond) (e : Byte) (s : State), exec (.jrCc cc e) s = .next
      (if condHolds cc s.regs.f then s.done { s.regs with pc := s.regs.pc + e.signExtend 16 }
       else s.withSig { s.sig.quiet false with aborted := true }))

/-- R360, R361, R372, R167, R491: calls and restarts push the address of the next instruction and go to their
target; a failed condition pushes nothing; where a write faults PC is at the target already and SP is as
before. (A fault's value carries the state left: log 6.) -/
def Obligations.CallsAndRestarts : Prop :=
  let pushes (i : Instr) (target : Word) : Prop :=
    WritesTwoBytes i (fun rb => rb.sp - 2 + 1) (fun rb => rb.sp - 2) (fun rb => rb.pc.extractLsb' 8 8)
      (fun rb => rb.pc.extractLsb' 0 8) (fun rb => { rb with pc := target })
      (fun rb => { rb with pc := target, sp := rb.sp - 2 })
  (∀ nn, pushes (.call nn) nn)
  ∧ (∀ t : BitVec 3, pushes (.rst t) (BitVec.ofNat 16 (8 * t.toNat)))
  ∧ (∀ (cc : Cond) (nn : Word) (s : State),
    (condHolds cc s.regs.f = true → exec (.callCc cc nn) s = exec (.call nn) s)
    ∧ (condHolds cc s.regs.f = false →
      exec (.callCc cc nn) s = .next (s.withSig { s.sig.quiet false with aborted := true })))

/-- R365 to R367, R480: returns pop PC; RETI also raises `sig.cis` and leaves `sig.ime`; a RET cc whose
condition fails reads the two stack bytes all the same and leaves every register as it was. -/
def Obligations.Returns : Prop :=
  ReadsStack .ret (fun rb v => { rb with sp := rb.sp + 2, pc := v }) (fun _ g => g)
  ∧ ReadsStack .reti (fun rb v => { rb with sp := rb.sp + 2, pc := v }) (fun _ g => { g with cis := true })
  ∧ (∀ cc, ReadsStack (.retCc cc)
      (fun rb v => if condHolds cc rb.f then { rb with sp := rb.sp + 2, pc := v } else rb)
      (fun rb g => { g with aborted := !condHolds cc rb.f }))

/-! ### Results: system and privilege -/

/-- R381 to R384, R163, R454: HALT, STOP, EI and DI change their signal and nothing else, at either level. -/
def Obligations.SystemInstructions : Prop :=
  ∀ s : State,
    exec .halt s = .next (s.withSig { s.sig.quiet false with halt := true })
    ∧ exec .stop s = .next (s.withSig { s.sig.quiet false with stop := true })
    ∧ exec .ei s = .next (s.withSig { s.sig.quiet false with ime := true })
    ∧ exec .di s = .next (s.withSig { s.sig.quiet false with ime := false })

/-- R386 to R391, R488: LDU loads a register with the byte User has at the address, whatever the level, leaves
the level, and raises `sig.umsor`; it stops where User maps nothing there. At User it is the matching LD but for
`sig.umsor`. -/
def Obligations.UserPrivilegedLoads : Prop :=
  let loads (i same : Instr) (a : RegisterBank → Word) (res : RegisterBank → Byte → RegisterBank) : Prop :=
    ∀ s : State,
      (s.accessible .user (a s.regs) = true →
        exec i s = .next (((s.afterRead .user (a s.regs)).withRegs
          (res s.regs (s.readValue .user (a s.regs)))).withSig (s.sig.quiet true)))
      ∧ (s.accessible .user (a s.regs) = false →
        exec i s = .fault (.memoryUnmapped (a s.regs) (s.withUmsor true)))
      ∧ (s.level = .user → exec i s = mapOutcome (fun t => t.withUmsor true) (exec same s))
  (∀ r, loads (.lduRIndHl r) (.ldRIndHl r) (fun rb => rb.get16 .hl) fun rb v => rb.set8 r v)
  ∧ loads .lduAIndBc .ldAIndBc (fun rb => rb.get16 .bc) (fun rb v => { rb with a := v })
  ∧ loads .lduAIndDe .ldAIndDe (fun rb => rb.get16 .de) (fun rb v => { rb with a := v })
  ∧ loads .lduAIndHlInc .ldAIndHlInc (fun rb => rb.get16 .hl)
      (fun rb v => { rb.set16 .hl (rb.get16 .hl + 1) with a := v })
  ∧ loads .lduAIndHlDec .ldAIndHlDec (fun rb => rb.get16 .hl)
      (fun rb v => { rb.set16 .hl (rb.get16 .hl - 1) with a := v })

/-- R392, R442, R487: JPU writes PC and raises `sig.umr` and leaves the level; the reference outer loop answers
before the next cycle, so that cycle is at User, and a passive one does not. (Its turn stands within the step:
log 7.) -/
def Obligations.UserModeJump : Prop :=
  ∀ (s : State) (nn : Word), ∃ t, exec (.jpuNn nn) s = .next t
    ∧ t = (s.withRegs { s.regs with pc := nn }).withSig { s.sig.quiet false with umr := true }
    ∧ (s.hostMoves = [] → s.outerLoop = .reference → step t = runCycle (t.withLevel .user))
    ∧ (s.hostMoves = [] → s.outerLoop = .passive → step t = runCycle t)

/-! ### Faults and the outer loop -/

/-- R75, R433, R435, R491: a cycle whose first fetch finds nothing mapped faults at PC with nothing changed; one
whose second fetch does leaves PC advanced by 1 and PIR written, IR old, the signals as they were. (The fault's
value carries that state: log 6.) -/
def Obligations.FetchFaults : Prop :=
  ∀ s : State,
    (s.accessible s.level s.regs.pc = false → runCycle s = .fault (.memoryUnmapped s.regs.pc s))
    ∧ (∀ b ∈ ([0xCB, 0xDD, 0xFD, 0xFC] : List Byte), s.plainByte s.level s.regs.pc = some b →
      s.accessible s.level (s.regs.pc + 1) = false →
        runCycle s = .fault (.memoryUnmapped (s.regs.pc + 1)
          (s.withRegs { s.regs with pc := s.regs.pc + 1, pir := b })))

/-- R172, R440, R450: the queries and ReadRegister change nothing and answer the signal or the whole register;
WriteRegister writes the one register and nothing else, and no host move writes a signal. -/
def Obligations.HostRegisterAccess : Prop :=
  ∀ s : State,
    (∀ q, hostMove (.query q) s = .reply (.bit (match q with
        | .clearInterruptStatusSignal => s.sig.cis
        | .haltSignal => s.sig.halt
        | .stopSignal => s.sig.stop
        | .interruptMasterEnable => s.sig.ime
        | .isExecutionAborted => s.sig.aborted
        | .userModeRequested => s.sig.umr
        | .userModeSourceOperandRequested => s.sig.umsor)) s)
    ∧ (∀ x : Reg8, hostMove (.readRegister (.r8 x)) s = .reply (.byte (s.regs.get8 x)) s)
    ∧ (∀ x : Reg16, hostMove (.readRegister (.r16 x)) s = .reply (.word (s.regs.get16 x)) s)
    ∧ (∀ (x : Reg8) (v : Word), hostMove (.writeRegister (.r8 x) v) s
        = .reply .done (s.withRegs (s.regs.set8 x (v.extractLsb' 0 8))))
    ∧ (∀ (x : Reg16) (v : Word), hostMove (.writeRegister (.r16 x) v) s
        = .reply .done (s.withRegs (s.regs.set16 x v)))
    ∧ (∀ (m : HostMove) (r : HostReply) (t : State), hostMove m s = .reply r t → t.sig = s.sig)

/-- R381, R382, R441, R446: with no move lined up, a run of the reference outer loop at a HALT ends halted after that
cycle and one at a STOP ends stopped, however many more cycles are allowed, each in the state with PC past the byte
and its signal true; one whose fetch finds nothing mapped, and one whose step faults at all, ends in that fault; after
any other completed step it goes on. (That a run is a function over step is the model's form, log 8.) -/
def Obligations.RunEndsAtHaltStopOrFault : Prop :=
  ∀ (n : Nat) (s : State), s.hostMoves = [] →
    let u := answerSignals s
    let after (b : Byte) : State := u.withRegs { s.regs with pc := s.regs.pc + 1, ir := b, pir := 0 }
    (u.plainByte u.level s.regs.pc = some 0x76 →
      referenceRun (n + 1) s = .halted ((after 0x76).withSig { s.sig.quiet false with halt := true }))
    ∧ (u.plainByte u.level s.regs.pc = some 0x10 →
      referenceRun (n + 1) s = .stopped ((after 0x10).withSig { s.sig.quiet false with stop := true }))
    ∧ (u.accessible u.level s.regs.pc = false →
      referenceRun (n + 1) s = .fault (.memoryUnmapped s.regs.pc u))
    ∧ (∀ f, step s = .fault f → referenceRun (n + 1) s = .fault f)
    ∧ (∀ t, step s = .next t → t.sig.halt = false → t.sig.stop = false →
      referenceRun (n + 1) s = referenceRun n t)

/-! ### The opcode table as a parameter -/

/-- R3, R10, R110, R134, R148, R151, R173: the cycle takes the opcode table as a parameter. With the baseline table it
is the machine's own step, from every state; with any table, whatever its handlers, an entry that is none is a
no-op cycle, and a cycle changes neither the level nor a registration. -/
def Obligations.OpcodeTableIsAParameter : Prop :=
  (∀ s : State, stepOf baseline s = step s)
  ∧ (∀ (table : Optable) (s t : State), fetchOpcode s = .ok t → table t.regs.pir t.regs.ir = none →
    runCycleOf table s = .next (t.withSig (s.sig.quiet false)))
  ∧ (∀ (table : Optable) (s t : State), runCycleOf table s = .next t → s.SameRouting t)
end

