-- ==== Sys2Proof/Laws/State.lean ====
section
/-! SUPPORT. One lemma per field per state update, and the same for the RegisterBank, so that no proof
unfolds a record update. -/

namespace Sys2Proof.Machine

/-! ### State -/

@[simp] theorem withRegs_regs (s : State) (rb : RegisterBank) : (s.withRegs rb).regs = rb := rfl
@[simp] theorem withRegs_level (s : State) (rb : RegisterBank) : (s.withRegs rb).level = s.level := rfl
@[simp] theorem withRegs_backings (s : State) (rb : RegisterBank) : (s.withRegs rb).backings = s.backings := rfl
@[simp] theorem withRegs_resources (s : State) (rb : RegisterBank) : (s.withRegs rb).resources = s.resources := rfl
@[simp] theorem withRegs_mapped (s : State) (rb : RegisterBank) : (s.withRegs rb).mapped = s.mapped := rfl
@[simp] theorem withRegs_devices (s : State) (rb : RegisterBank) : (s.withRegs rb).devices = s.devices := rfl
@[simp] theorem withRegs_nextHandle (s : State) (rb : RegisterBank) : (s.withRegs rb).nextHandle = s.nextHandle := rfl
@[simp] theorem withRegs_sig (s : State) (rb : RegisterBank) : (s.withRegs rb).sig = s.sig := rfl
@[simp] theorem withRegs_draws (s : State) (rb : RegisterBank) : (s.withRegs rb).draws = s.draws := rfl
@[simp] theorem withRegs_outerLoop (s : State) (rb : RegisterBank) : (s.withRegs rb).outerLoop = s.outerLoop := rfl
@[simp] theorem withRegs_hostMoves (s : State) (rb : RegisterBank) : (s.withRegs rb).hostMoves = s.hostMoves := rfl

@[simp] theorem withSig_regs (s : State) (g : Signals) : (s.withSig g).regs = s.regs := rfl
@[simp] theorem withSig_level (s : State) (g : Signals) : (s.withSig g).level = s.level := rfl
@[simp] theorem withSig_backings (s : State) (g : Signals) : (s.withSig g).backings = s.backings := rfl
@[simp] theorem withSig_resources (s : State) (g : Signals) : (s.withSig g).resources = s.resources := rfl
@[simp] theorem withSig_mapped (s : State) (g : Signals) : (s.withSig g).mapped = s.mapped := rfl
@[simp] theorem withSig_devices (s : State) (g : Signals) : (s.withSig g).devices = s.devices := rfl
@[simp] theorem withSig_nextHandle (s : State) (g : Signals) : (s.withSig g).nextHandle = s.nextHandle := rfl
@[simp] theorem withSig_sig (s : State) (g : Signals) : (s.withSig g).sig = g := rfl
@[simp] theorem withSig_draws (s : State) (g : Signals) : (s.withSig g).draws = s.draws := rfl
@[simp] theorem withSig_outerLoop (s : State) (g : Signals) : (s.withSig g).outerLoop = s.outerLoop := rfl
@[simp] theorem withSig_hostMoves (s : State) (g : Signals) : (s.withSig g).hostMoves = s.hostMoves := rfl

@[simp] theorem withLevel_regs (s : State) (l : SecurityLevel) : (s.withLevel l).regs = s.regs := rfl
@[simp] theorem withLevel_level (s : State) (l : SecurityLevel) : (s.withLevel l).level = l := rfl
@[simp] theorem withLevel_backings (s : State) (l : SecurityLevel) : (s.withLevel l).backings = s.backings := rfl
@[simp] theorem withLevel_resources (s : State) (l : SecurityLevel) : (s.withLevel l).resources = s.resources := rfl
@[simp] theorem withLevel_mapped (s : State) (l : SecurityLevel) : (s.withLevel l).mapped = s.mapped := rfl
@[simp] theorem withLevel_devices (s : State) (l : SecurityLevel) : (s.withLevel l).devices = s.devices := rfl
@[simp] theorem withLevel_nextHandle (s : State) (l : SecurityLevel) : (s.withLevel l).nextHandle = s.nextHandle := rfl
@[simp] theorem withLevel_sig (s : State) (l : SecurityLevel) : (s.withLevel l).sig = s.sig := rfl
@[simp] theorem withLevel_draws (s : State) (l : SecurityLevel) : (s.withLevel l).draws = s.draws := rfl
@[simp] theorem withLevel_outerLoop (s : State) (l : SecurityLevel) : (s.withLevel l).outerLoop = s.outerLoop := rfl
@[simp] theorem withLevel_hostMoves (s : State) (l : SecurityLevel) : (s.withLevel l).hostMoves = s.hostMoves := rfl

@[simp] theorem withBackings_regs (s : State) (ms : List Backing) : (s.withBackings ms).regs = s.regs := rfl
@[simp] theorem withBackings_level (s : State) (ms : List Backing) : (s.withBackings ms).level = s.level := rfl
@[simp] theorem withBackings_backings (s : State) (ms : List Backing) : (s.withBackings ms).backings = ms := rfl
@[simp] theorem withBackings_resources (s : State) (ms : List Backing) : (s.withBackings ms).resources = s.resources := rfl
@[simp] theorem withBackings_mapped (s : State) (ms : List Backing) : (s.withBackings ms).mapped = s.mapped := rfl
@[simp] theorem withBackings_devices (s : State) (ms : List Backing) : (s.withBackings ms).devices = s.devices := rfl
@[simp] theorem withBackings_nextHandle (s : State) (ms : List Backing) : (s.withBackings ms).nextHandle = s.nextHandle := rfl
@[simp] theorem withBackings_sig (s : State) (ms : List Backing) : (s.withBackings ms).sig = s.sig := rfl
@[simp] theorem withBackings_draws (s : State) (ms : List Backing) : (s.withBackings ms).draws = s.draws := rfl
@[simp] theorem withBackings_outerLoop (s : State) (ms : List Backing) : (s.withBackings ms).outerLoop = s.outerLoop := rfl
@[simp] theorem withBackings_hostMoves (s : State) (ms : List Backing) : (s.withBackings ms).hostMoves = s.hostMoves := rfl

@[simp] theorem withResources_regs (s : State) (rs : List Resource) : (s.withResources rs).regs = s.regs := rfl
@[simp] theorem withResources_level (s : State) (rs : List Resource) : (s.withResources rs).level = s.level := rfl
@[simp] theorem withResources_backings (s : State) (rs : List Resource) : (s.withResources rs).backings = s.backings := rfl
@[simp] theorem withResources_resources (s : State) (rs : List Resource) : (s.withResources rs).resources = rs := rfl
@[simp] theorem withResources_mapped (s : State) (rs : List Resource) : (s.withResources rs).mapped = s.mapped := rfl
@[simp] theorem withResources_devices (s : State) (rs : List Resource) : (s.withResources rs).devices = s.devices := rfl
@[simp] theorem withResources_nextHandle (s : State) (rs : List Resource) : (s.withResources rs).nextHandle = s.nextHandle := rfl
@[simp] theorem withResources_sig (s : State) (rs : List Resource) : (s.withResources rs).sig = s.sig := rfl
@[simp] theorem withResources_draws (s : State) (rs : List Resource) : (s.withResources rs).draws = s.draws := rfl
@[simp] theorem withResources_outerLoop (s : State) (rs : List Resource) : (s.withResources rs).outerLoop = s.outerLoop := rfl
@[simp] theorem withResources_hostMoves (s : State) (rs : List Resource) : (s.withResources rs).hostMoves = s.hostMoves := rfl

@[simp] theorem withMapped_regs (s : State) (gs : List MappedRegister) : (s.withMapped gs).regs = s.regs := rfl
@[simp] theorem withMapped_level (s : State) (gs : List MappedRegister) : (s.withMapped gs).level = s.level := rfl
@[simp] theorem withMapped_backings (s : State) (gs : List MappedRegister) : (s.withMapped gs).backings = s.backings := rfl
@[simp] theorem withMapped_resources (s : State) (gs : List MappedRegister) : (s.withMapped gs).resources = s.resources := rfl
@[simp] theorem withMapped_mapped (s : State) (gs : List MappedRegister) : (s.withMapped gs).mapped = gs := rfl
@[simp] theorem withMapped_devices (s : State) (gs : List MappedRegister) : (s.withMapped gs).devices = s.devices := rfl
@[simp] theorem withMapped_nextHandle (s : State) (gs : List MappedRegister) : (s.withMapped gs).nextHandle = s.nextHandle := rfl
@[simp] theorem withMapped_sig (s : State) (gs : List MappedRegister) : (s.withMapped gs).sig = s.sig := rfl
@[simp] theorem withMapped_draws (s : State) (gs : List MappedRegister) : (s.withMapped gs).draws = s.draws := rfl
@[simp] theorem withMapped_outerLoop (s : State) (gs : List MappedRegister) : (s.withMapped gs).outerLoop = s.outerLoop := rfl
@[simp] theorem withMapped_hostMoves (s : State) (gs : List MappedRegister) : (s.withMapped gs).hostMoves = s.hostMoves := rfl

@[simp] theorem withDevices_regs (s : State) (ds : List Device) : (s.withDevices ds).regs = s.regs := rfl
@[simp] theorem withDevices_level (s : State) (ds : List Device) : (s.withDevices ds).level = s.level := rfl
@[simp] theorem withDevices_backings (s : State) (ds : List Device) : (s.withDevices ds).backings = s.backings := rfl
@[simp] theorem withDevices_resources (s : State) (ds : List Device) : (s.withDevices ds).resources = s.resources := rfl
@[simp] theorem withDevices_mapped (s : State) (ds : List Device) : (s.withDevices ds).mapped = s.mapped := rfl
@[simp] theorem withDevices_devices (s : State) (ds : List Device) : (s.withDevices ds).devices = ds := rfl
@[simp] theorem withDevices_nextHandle (s : State) (ds : List Device) : (s.withDevices ds).nextHandle = s.nextHandle := rfl
@[simp] theorem withDevices_sig (s : State) (ds : List Device) : (s.withDevices ds).sig = s.sig := rfl
@[simp] theorem withDevices_draws (s : State) (ds : List Device) : (s.withDevices ds).draws = s.draws := rfl
@[simp] theorem withDevices_outerLoop (s : State) (ds : List Device) : (s.withDevices ds).outerLoop = s.outerLoop := rfl
@[simp] theorem withDevices_hostMoves (s : State) (ds : List Device) : (s.withDevices ds).hostMoves = s.hostMoves := rfl

@[simp] theorem withHostMoves_regs (s : State) (ms : List HostMove) : (s.withHostMoves ms).regs = s.regs := rfl
@[simp] theorem withHostMoves_level (s : State) (ms : List HostMove) : (s.withHostMoves ms).level = s.level := rfl
@[simp] theorem withHostMoves_backings (s : State) (ms : List HostMove) : (s.withHostMoves ms).backings = s.backings := rfl
@[simp] theorem withHostMoves_resources (s : State) (ms : List HostMove) : (s.withHostMoves ms).resources = s.resources := rfl
@[simp] theorem withHostMoves_mapped (s : State) (ms : List HostMove) : (s.withHostMoves ms).mapped = s.mapped := rfl
@[simp] theorem withHostMoves_devices (s : State) (ms : List HostMove) : (s.withHostMoves ms).devices = s.devices := rfl
@[simp] theorem withHostMoves_nextHandle (s : State) (ms : List HostMove) : (s.withHostMoves ms).nextHandle = s.nextHandle := rfl
@[simp] theorem withHostMoves_sig (s : State) (ms : List HostMove) : (s.withHostMoves ms).sig = s.sig := rfl
@[simp] theorem withHostMoves_draws (s : State) (ms : List HostMove) : (s.withHostMoves ms).draws = s.draws := rfl
@[simp] theorem withHostMoves_outerLoop (s : State) (ms : List HostMove) : (s.withHostMoves ms).outerLoop = s.outerLoop := rfl
@[simp] theorem withHostMoves_hostMoves (s : State) (ms : List HostMove) : (s.withHostMoves ms).hostMoves = ms := rfl

@[simp] theorem drawn_regs (s : State) : s.drawn.regs = s.regs := rfl
@[simp] theorem drawn_level (s : State) : s.drawn.level = s.level := rfl
@[simp] theorem drawn_backings (s : State) : s.drawn.backings = s.backings := rfl
@[simp] theorem drawn_resources (s : State) : s.drawn.resources = s.resources := rfl
@[simp] theorem drawn_mapped (s : State) : s.drawn.mapped = s.mapped := rfl
@[simp] theorem drawn_devices (s : State) : s.drawn.devices = s.devices := rfl
@[simp] theorem drawn_nextHandle (s : State) : s.drawn.nextHandle = s.nextHandle := rfl
@[simp] theorem drawn_sig (s : State) : s.drawn.sig = s.sig := rfl
@[simp] theorem drawn_draws (s : State) : s.drawn.draws = s.draws + 1 := rfl
@[simp] theorem drawn_outerLoop (s : State) : s.drawn.outerLoop = s.outerLoop := rfl
@[simp] theorem drawn_hostMoves (s : State) : s.drawn.hostMoves = s.hostMoves := rfl

@[simp] theorem withUmsor_regs (s : State) (v : Bool) : (s.withUmsor v).regs = s.regs := rfl
@[simp] theorem withUmsor_level (s : State) (v : Bool) : (s.withUmsor v).level = s.level := rfl
@[simp] theorem withUmsor_backings (s : State) (v : Bool) : (s.withUmsor v).backings = s.backings := rfl
@[simp] theorem withUmsor_resources (s : State) (v : Bool) : (s.withUmsor v).resources = s.resources := rfl
@[simp] theorem withUmsor_mapped (s : State) (v : Bool) : (s.withUmsor v).mapped = s.mapped := rfl
@[simp] theorem withUmsor_devices (s : State) (v : Bool) : (s.withUmsor v).devices = s.devices := rfl
@[simp] theorem withUmsor_nextHandle (s : State) (v : Bool) : (s.withUmsor v).nextHandle = s.nextHandle := rfl
@[simp] theorem withUmsor_sig (s : State) (v : Bool) : (s.withUmsor v).sig = { s.sig with umsor := v } := rfl
@[simp] theorem withUmsor_draws (s : State) (v : Bool) : (s.withUmsor v).draws = s.draws := rfl
@[simp] theorem withUmsor_outerLoop (s : State) (v : Bool) : (s.withUmsor v).outerLoop = s.outerLoop := rfl
@[simp] theorem withUmsor_hostMoves (s : State) (v : Bool) : (s.withUmsor v).hostMoves = s.hostMoves := rfl

/-- Writing back what a state holds changes nothing. -/
@[simp] theorem withRegs_self (s : State) : s.withRegs s.regs = s := rfl

@[simp] theorem withSig_self (s : State) : s.withSig s.sig = s := rfl

@[simp] theorem withRegs_withRegs (s : State) (x y : RegisterBank) :
    (s.withRegs x).withRegs y = s.withRegs y := rfl

@[simp] theorem withSig_withSig (s : State) (x y : Signals) : (s.withSig x).withSig y = s.withSig y := rfl

/-- Signals are put outside registers. -/
@[simp] theorem withSig_withRegs (s : State) (g : Signals) (rb : RegisterBank) :
    (s.withSig g).withRegs rb = (s.withRegs rb).withSig g := rfl

/-! ### RegisterBank: what a write leaves -/

/-- An 8-bit write changes the one cell it names. -/
theorem get8_set8 (rb : RegisterBank) (x y : Reg8) (v : Byte) :
    (rb.set8 x v).get8 y = if y = x then v else rb.get8 y := by
  cases x <;> cases y <;> rfl

@[simp] theorem get8_set8_same (rb : RegisterBank) (x : Reg8) (v : Byte) : (rb.set8 x v).get8 x = v := by
  cases x <;> rfl

@[simp] theorem set8_pc (rb : RegisterBank) (x : Reg8) (v : Byte) : (rb.set8 x v).pc = rb.pc := by
  cases x <;> rfl
@[simp] theorem set8_sp (rb : RegisterBank) (x : Reg8) (v : Byte) : (rb.set8 x v).sp = rb.sp := by
  cases x <;> rfl
@[simp] theorem set8_ix (rb : RegisterBank) (x : Reg8) (v : Byte) : (rb.set8 x v).ix = rb.ix := by
  cases x <;> rfl
@[simp] theorem set8_iy (rb : RegisterBank) (x : Reg8) (v : Byte) : (rb.set8 x v).iy = rb.iy := by
  cases x <;> rfl

theorem get16_hl (rb : RegisterBank) : rb.get16 .hl = join rb.h rb.l := rfl
theorem get16_bc (rb : RegisterBank) : rb.get16 .bc = join rb.b rb.c := rfl
theorem get16_de (rb : RegisterBank) : rb.get16 .de = join rb.d rb.e := rfl
theorem get16_af (rb : RegisterBank) : rb.get16 .af = join rb.a rb.f := rfl
@[simp] theorem get16_pc (rb : RegisterBank) : rb.get16 .pc = rb.pc := rfl
@[simp] theorem get16_sp (rb : RegisterBank) : rb.get16 .sp = rb.sp := rfl
@[simp] theorem get16_ix (rb : RegisterBank) : rb.get16 .ix = rb.ix := rfl
@[simp] theorem get16_iy (rb : RegisterBank) : rb.get16 .iy = rb.iy := rfl

@[simp] theorem set16_pc_b (rb : RegisterBank) (v : Word) : (rb.set16 .pc v).b = rb.b := rfl
@[simp] theorem set16_pc_c (rb : RegisterBank) (v : Word) : (rb.set16 .pc v).c = rb.c := rfl
@[simp] theorem set16_pc_d (rb : RegisterBank) (v : Word) : (rb.set16 .pc v).d = rb.d := rfl
@[simp] theorem set16_pc_e (rb : RegisterBank) (v : Word) : (rb.set16 .pc v).e = rb.e := rfl
@[simp] theorem set16_pc_h (rb : RegisterBank) (v : Word) : (rb.set16 .pc v).h = rb.h := rfl
@[simp] theorem set16_pc_l (rb : RegisterBank) (v : Word) : (rb.set16 .pc v).l = rb.l := rfl
@[simp] theorem set16_pc_a (rb : RegisterBank) (v : Word) : (rb.set16 .pc v).a = rb.a := rfl
@[simp] theorem set16_pc_f (rb : RegisterBank) (v : Word) : (rb.set16 .pc v).f = rb.f := rfl
@[simp] theorem set16_pc_ir (rb : RegisterBank) (v : Word) : (rb.set16 .pc v).ir = rb.ir := rfl
@[simp] theorem set16_pc_pir (rb : RegisterBank) (v : Word) : (rb.set16 .pc v).pir = rb.pir := rfl
@[simp] theorem set16_pc_r (rb : RegisterBank) (v : Word) : (rb.set16 .pc v).r = rb.r := rfl
@[simp] theorem set16_pc_pc (rb : RegisterBank) (v : Word) : (rb.set16 .pc v).pc = v := rfl
@[simp] theorem set16_pc_sp (rb : RegisterBank) (v : Word) : (rb.set16 .pc v).sp = rb.sp := rfl
@[simp] theorem set16_pc_ix (rb : RegisterBank) (v : Word) : (rb.set16 .pc v).ix = rb.ix := rfl
@[simp] theorem set16_pc_iy (rb : RegisterBank) (v : Word) : (rb.set16 .pc v).iy = rb.iy := rfl

@[simp] theorem set16_sp_b (rb : RegisterBank) (v : Word) : (rb.set16 .sp v).b = rb.b := rfl
@[simp] theorem set16_sp_c (rb : RegisterBank) (v : Word) : (rb.set16 .sp v).c = rb.c := rfl
@[simp] theorem set16_sp_d (rb : RegisterBank) (v : Word) : (rb.set16 .sp v).d = rb.d := rfl
@[simp] theorem set16_sp_e (rb : RegisterBank) (v : Word) : (rb.set16 .sp v).e = rb.e := rfl
@[simp] theorem set16_sp_h (rb : RegisterBank) (v : Word) : (rb.set16 .sp v).h = rb.h := rfl
@[simp] theorem set16_sp_l (rb : RegisterBank) (v : Word) : (rb.set16 .sp v).l = rb.l := rfl
@[simp] theorem set16_sp_a (rb : RegisterBank) (v : Word) : (rb.set16 .sp v).a = rb.a := rfl
@[simp] theorem set16_sp_f (rb : RegisterBank) (v : Word) : (rb.set16 .sp v).f = rb.f := rfl
@[simp] theorem set16_sp_ir (rb : RegisterBank) (v : Word) : (rb.set16 .sp v).ir = rb.ir := rfl
@[simp] theorem set16_sp_pir (rb : RegisterBank) (v : Word) : (rb.set16 .sp v).pir = rb.pir := rfl
@[simp] theorem set16_sp_r (rb : RegisterBank) (v : Word) : (rb.set16 .sp v).r = rb.r := rfl
@[simp] theorem set16_sp_pc (rb : RegisterBank) (v : Word) : (rb.set16 .sp v).pc = rb.pc := rfl
@[simp] theorem set16_sp_sp (rb : RegisterBank) (v : Word) : (rb.set16 .sp v).sp = v := rfl
@[simp] theorem set16_sp_ix (rb : RegisterBank) (v : Word) : (rb.set16 .sp v).ix = rb.ix := rfl
@[simp] theorem set16_sp_iy (rb : RegisterBank) (v : Word) : (rb.set16 .sp v).iy = rb.iy := rfl

@[simp] theorem set16_ix_b (rb : RegisterBank) (v : Word) : (rb.set16 .ix v).b = rb.b := rfl
@[simp] theorem set16_ix_c (rb : RegisterBank) (v : Word) : (rb.set16 .ix v).c = rb.c := rfl
@[simp] theorem set16_ix_d (rb : RegisterBank) (v : Word) : (rb.set16 .ix v).d = rb.d := rfl
@[simp] theorem set16_ix_e (rb : RegisterBank) (v : Word) : (rb.set16 .ix v).e = rb.e := rfl
@[simp] theorem set16_ix_h (rb : RegisterBank) (v : Word) : (rb.set16 .ix v).h = rb.h := rfl
@[simp] theorem set16_ix_l (rb : RegisterBank) (v : Word) : (rb.set16 .ix v).l = rb.l := rfl
@[simp] theorem set16_ix_a (rb : RegisterBank) (v : Word) : (rb.set16 .ix v).a = rb.a := rfl
@[simp] theorem set16_ix_f (rb : RegisterBank) (v : Word) : (rb.set16 .ix v).f = rb.f := rfl
@[simp] theorem set16_ix_ir (rb : RegisterBank) (v : Word) : (rb.set16 .ix v).ir = rb.ir := rfl
@[simp] theorem set16_ix_pir (rb : RegisterBank) (v : Word) : (rb.set16 .ix v).pir = rb.pir := rfl
@[simp] theorem set16_ix_r (rb : RegisterBank) (v : Word) : (rb.set16 .ix v).r = rb.r := rfl
@[simp] theorem set16_ix_pc (rb : RegisterBank) (v : Word) : (rb.set16 .ix v).pc = rb.pc := rfl
@[simp] theorem set16_ix_sp (rb : RegisterBank) (v : Word) : (rb.set16 .ix v).sp = rb.sp := rfl
@[simp] theorem set16_ix_ix (rb : RegisterBank) (v : Word) : (rb.set16 .ix v).ix = v := rfl
@[simp] theorem set16_ix_iy (rb : RegisterBank) (v : Word) : (rb.set16 .ix v).iy = rb.iy := rfl

@[simp] theorem set16_iy_b (rb : RegisterBank) (v : Word) : (rb.set16 .iy v).b = rb.b := rfl
@[simp] theorem set16_iy_c (rb : RegisterBank) (v : Word) : (rb.set16 .iy v).c = rb.c := rfl
@[simp] theorem set16_iy_d (rb : RegisterBank) (v : Word) : (rb.set16 .iy v).d = rb.d := rfl
@[simp] theorem set16_iy_e (rb : RegisterBank) (v : Word) : (rb.set16 .iy v).e = rb.e := rfl
@[simp] theorem set16_iy_h (rb : RegisterBank) (v : Word) : (rb.set16 .iy v).h = rb.h := rfl
@[simp] theorem set16_iy_l (rb : RegisterBank) (v : Word) : (rb.set16 .iy v).l = rb.l := rfl
@[simp] theorem set16_iy_a (rb : RegisterBank) (v : Word) : (rb.set16 .iy v).a = rb.a := rfl
@[simp] theorem set16_iy_f (rb : RegisterBank) (v : Word) : (rb.set16 .iy v).f = rb.f := rfl
@[simp] theorem set16_iy_ir (rb : RegisterBank) (v : Word) : (rb.set16 .iy v).ir = rb.ir := rfl
@[simp] theorem set16_iy_pir (rb : RegisterBank) (v : Word) : (rb.set16 .iy v).pir = rb.pir := rfl
@[simp] theorem set16_iy_r (rb : RegisterBank) (v : Word) : (rb.set16 .iy v).r = rb.r := rfl
@[simp] theorem set16_iy_pc (rb : RegisterBank) (v : Word) : (rb.set16 .iy v).pc = rb.pc := rfl
@[simp] theorem set16_iy_sp (rb : RegisterBank) (v : Word) : (rb.set16 .iy v).sp = rb.sp := rfl
@[simp] theorem set16_iy_ix (rb : RegisterBank) (v : Word) : (rb.set16 .iy v).ix = rb.ix := rfl
@[simp] theorem set16_iy_iy (rb : RegisterBank) (v : Word) : (rb.set16 .iy v).iy = v := rfl

@[simp] theorem set16_hl_b (rb : RegisterBank) (v : Word) : (rb.set16 .hl v).b = rb.b := rfl
@[simp] theorem set16_hl_c (rb : RegisterBank) (v : Word) : (rb.set16 .hl v).c = rb.c := rfl
@[simp] theorem set16_hl_d (rb : RegisterBank) (v : Word) : (rb.set16 .hl v).d = rb.d := rfl
@[simp] theorem set16_hl_e (rb : RegisterBank) (v : Word) : (rb.set16 .hl v).e = rb.e := rfl
@[simp] theorem set16_hl_h (rb : RegisterBank) (v : Word) : (rb.set16 .hl v).h = hi v := rfl
@[simp] theorem set16_hl_l (rb : RegisterBank) (v : Word) : (rb.set16 .hl v).l = lo v := rfl
@[simp] theorem set16_hl_a (rb : RegisterBank) (v : Word) : (rb.set16 .hl v).a = rb.a := rfl
@[simp] theorem set16_hl_f (rb : RegisterBank) (v : Word) : (rb.set16 .hl v).f = rb.f := rfl
@[simp] theorem set16_hl_ir (rb : RegisterBank) (v : Word) : (rb.set16 .hl v).ir = rb.ir := rfl
@[simp] theorem set16_hl_pir (rb : RegisterBank) (v : Word) : (rb.set16 .hl v).pir = rb.pir := rfl
@[simp] theorem set16_hl_r (rb : RegisterBank) (v : Word) : (rb.set16 .hl v).r = rb.r := rfl
@[simp] theorem set16_hl_pc (rb : RegisterBank) (v : Word) : (rb.set16 .hl v).pc = rb.pc := rfl
@[simp] theorem set16_hl_sp (rb : RegisterBank) (v : Word) : (rb.set16 .hl v).sp = rb.sp := rfl
@[simp] theorem set16_hl_ix (rb : RegisterBank) (v : Word) : (rb.set16 .hl v).ix = rb.ix := rfl
@[simp] theorem set16_hl_iy (rb : RegisterBank) (v : Word) : (rb.set16 .hl v).iy = rb.iy := rfl

@[simp] theorem set16_bc_b (rb : RegisterBank) (v : Word) : (rb.set16 .bc v).b = hi v := rfl
@[simp] theorem set16_bc_c (rb : RegisterBank) (v : Word) : (rb.set16 .bc v).c = lo v := rfl
@[simp] theorem set16_bc_d (rb : RegisterBank) (v : Word) : (rb.set16 .bc v).d = rb.d := rfl
@[simp] theorem set16_bc_e (rb : RegisterBank) (v : Word) : (rb.set16 .bc v).e = rb.e := rfl
@[simp] theorem set16_bc_h (rb : RegisterBank) (v : Word) : (rb.set16 .bc v).h = rb.h := rfl
@[simp] theorem set16_bc_l (rb : RegisterBank) (v : Word) : (rb.set16 .bc v).l = rb.l := rfl
@[simp] theorem set16_bc_a (rb : RegisterBank) (v : Word) : (rb.set16 .bc v).a = rb.a := rfl
@[simp] theorem set16_bc_f (rb : RegisterBank) (v : Word) : (rb.set16 .bc v).f = rb.f := rfl
@[simp] theorem set16_bc_ir (rb : RegisterBank) (v : Word) : (rb.set16 .bc v).ir = rb.ir := rfl
@[simp] theorem set16_bc_pir (rb : RegisterBank) (v : Word) : (rb.set16 .bc v).pir = rb.pir := rfl
@[simp] theorem set16_bc_r (rb : RegisterBank) (v : Word) : (rb.set16 .bc v).r = rb.r := rfl
@[simp] theorem set16_bc_pc (rb : RegisterBank) (v : Word) : (rb.set16 .bc v).pc = rb.pc := rfl
@[simp] theorem set16_bc_sp (rb : RegisterBank) (v : Word) : (rb.set16 .bc v).sp = rb.sp := rfl
@[simp] theorem set16_bc_ix (rb : RegisterBank) (v : Word) : (rb.set16 .bc v).ix = rb.ix := rfl
@[simp] theorem set16_bc_iy (rb : RegisterBank) (v : Word) : (rb.set16 .bc v).iy = rb.iy := rfl

@[simp] theorem set16_de_b (rb : RegisterBank) (v : Word) : (rb.set16 .de v).b = rb.b := rfl
@[simp] theorem set16_de_c (rb : RegisterBank) (v : Word) : (rb.set16 .de v).c = rb.c := rfl
@[simp] theorem set16_de_d (rb : RegisterBank) (v : Word) : (rb.set16 .de v).d = hi v := rfl
@[simp] theorem set16_de_e (rb : RegisterBank) (v : Word) : (rb.set16 .de v).e = lo v := rfl
@[simp] theorem set16_de_h (rb : RegisterBank) (v : Word) : (rb.set16 .de v).h = rb.h := rfl
@[simp] theorem set16_de_l (rb : RegisterBank) (v : Word) : (rb.set16 .de v).l = rb.l := rfl
@[simp] theorem set16_de_a (rb : RegisterBank) (v : Word) : (rb.set16 .de v).a = rb.a := rfl
@[simp] theorem set16_de_f (rb : RegisterBank) (v : Word) : (rb.set16 .de v).f = rb.f := rfl
@[simp] theorem set16_de_ir (rb : RegisterBank) (v : Word) : (rb.set16 .de v).ir = rb.ir := rfl
@[simp] theorem set16_de_pir (rb : RegisterBank) (v : Word) : (rb.set16 .de v).pir = rb.pir := rfl
@[simp] theorem set16_de_r (rb : RegisterBank) (v : Word) : (rb.set16 .de v).r = rb.r := rfl
@[simp] theorem set16_de_pc (rb : RegisterBank) (v : Word) : (rb.set16 .de v).pc = rb.pc := rfl
@[simp] theorem set16_de_sp (rb : RegisterBank) (v : Word) : (rb.set16 .de v).sp = rb.sp := rfl
@[simp] theorem set16_de_ix (rb : RegisterBank) (v : Word) : (rb.set16 .de v).ix = rb.ix := rfl
@[simp] theorem set16_de_iy (rb : RegisterBank) (v : Word) : (rb.set16 .de v).iy = rb.iy := rfl

@[simp] theorem set16_af_b (rb : RegisterBank) (v : Word) : (rb.set16 .af v).b = rb.b := rfl
@[simp] theorem set16_af_c (rb : RegisterBank) (v : Word) : (rb.set16 .af v).c = rb.c := rfl
@[simp] theorem set16_af_d (rb : RegisterBank) (v : Word) : (rb.set16 .af v).d = rb.d := rfl
@[simp] theorem set16_af_e (rb : RegisterBank) (v : Word) : (rb.set16 .af v).e = rb.e := rfl
@[simp] theorem set16_af_h (rb : RegisterBank) (v : Word) : (rb.set16 .af v).h = rb.h := rfl
@[simp] theorem set16_af_l (rb : RegisterBank) (v : Word) : (rb.set16 .af v).l = rb.l := rfl
@[simp] theorem set16_af_a (rb : RegisterBank) (v : Word) : (rb.set16 .af v).a = hi v := rfl
@[simp] theorem set16_af_f (rb : RegisterBank) (v : Word) : (rb.set16 .af v).f = lo v := rfl
@[simp] theorem set16_af_ir (rb : RegisterBank) (v : Word) : (rb.set16 .af v).ir = rb.ir := rfl
@[simp] theorem set16_af_pir (rb : RegisterBank) (v : Word) : (rb.set16 .af v).pir = rb.pir := rfl
@[simp] theorem set16_af_r (rb : RegisterBank) (v : Word) : (rb.set16 .af v).r = rb.r := rfl
@[simp] theorem set16_af_pc (rb : RegisterBank) (v : Word) : (rb.set16 .af v).pc = rb.pc := rfl
@[simp] theorem set16_af_sp (rb : RegisterBank) (v : Word) : (rb.set16 .af v).sp = rb.sp := rfl
@[simp] theorem set16_af_ix (rb : RegisterBank) (v : Word) : (rb.set16 .af v).ix = rb.ix := rfl
@[simp] theorem set16_af_iy (rb : RegisterBank) (v : Word) : (rb.set16 .af v).iy = rb.iy := rfl

/-! ### Bytes and words -/

/-- Bit k of `a:b`. -/
theorem getLsbD_join (a b : Byte) (k : Nat) :
    (join a b).getLsbD k = if k < 8 then b.getLsbD k else a.getLsbD (k - 8) := by
  have h := BitVec.getLsbD_append (x := a) (y := b) (i := k)
  rw [show (join a b).getLsbD k = (a ++ b : BitVec (8 + 8)).getLsbD k from rfl, h]

theorem getLsbD_lo (v : Word) (k : Nat) : (lo v).getLsbD k = (decide (k < 8) && v.getLsbD k) := by
  simp [lo]

theorem getLsbD_hi (v : Word) (k : Nat) :
    (hi v).getLsbD k = (decide (k < 8) && v.getLsbD (8 + k)) := by
  simp [hi]

/-- The two halves of a word make the word. -/
@[simp] theorem join_hi_lo (v : Word) : join (hi v) (lo v) = v := by
  refine BitVec.eq_of_getLsbD_eq fun k hk => ?_
  by_cases h : k < 8
  · simp only [getLsbD_join, getLsbD_lo, h, if_true, decide_true, Bool.true_and]
  · simp only [getLsbD_join, getLsbD_hi, h, if_false]
    rw [show 8 + (k - 8) = k by omega, decide_eq_true (show k - 8 < 8 by omega), Bool.true_and]

@[simp] theorem hi_join (a b : Byte) : hi (join a b) = a := by
  refine BitVec.eq_of_getLsbD_eq fun k hk => ?_
  simp only [getLsbD_join, getLsbD_hi, hk, decide_true, Bool.true_and, show ¬(8 + k < 8) by omega,
    if_false, Nat.add_sub_cancel_left]

@[simp] theorem lo_join (a b : Byte) : lo (join a b) = b := by
  refine BitVec.eq_of_getLsbD_eq fun k hk => ?_
  simp only [getLsbD_join, getLsbD_lo, hk, decide_true, Bool.true_and, if_true]

/-- A pair write followed by a pair read (R25). -/
@[simp] theorem get16_set16_same (rb : RegisterBank) (x : Reg16) (v : Word) :
    (rb.set16 x v).get16 x = v := by
  cases x <;> simp [get16_hl, get16_bc, get16_de, get16_af]

end Sys2Proof.Machine
end

