-- ==== Sys2Proof/Laws/Memory.lean ====
section
/-! SUPPORT. The bytes of a resource: a byte reads back as written, others are untouched, and every
operation keeps the canonical form. -/

namespace Sys2Proof.Machine

/-! ### Reading after writing -/

theorem Memory.read_insert (m : Memory) (k j : Nat) (v : Byte) (hk : ∀ c ∈ m, c.1 ≠ k) :
    (Memory.insert m k v).read j = if j = k then v else m.read j := by
  induction m with
  | nil => simp [Memory.insert, Memory.read, eq_comm]
  | cons c m ih =>
    obtain ⟨a, w⟩ := c
    have hak : a ≠ k := hk (a, w) List.mem_cons_self
    have ih := ih fun c hc => hk c (List.mem_cons_of_mem _ hc)
    by_cases hlt : k < a
    · simp [Memory.insert, Memory.read, hlt, eq_comm]
    · by_cases hj : a = j
      · subst hj; simp [Memory.insert, Memory.read, hlt, hak]
      · simp [Memory.insert, Memory.read, hlt, hj, ih]

theorem Memory.read_filter (m : Memory) (k j : Nat) :
    Memory.read (m.filter (fun cell => cell.1 != k)) j
      = if j = k then Memory.unlisted else m.read j := by
  induction m with
  | nil => simp [Memory.read]
  | cons c m ih =>
    obtain ⟨a, w⟩ := c
    by_cases ha : a = k
    · subst ha
      by_cases hj : j = a
      · subst hj; simpa using ih
      · simp [Memory.read, ih, hj, Ne.symm hj]
    · by_cases hj : a = j
      · subst hj; simp [Memory.read, ha]
      · simp [Memory.read, ha, hj, ih]

/-- A byte write replaces one byte (spec/20_memory.md R68). -/
theorem Memory.read_write (m : Memory) (k j : Nat) (v : Byte) :
    (Memory.write m k v).read j = if j = k then v else m.read j := by
  unfold Memory.write
  by_cases hv : v = Memory.unlisted
  · simp [hv, Memory.read_filter]
  · simp only [hv, if_false]
    rw [Memory.read_insert _ _ _ _ (by simp)]
    split <;> simp [Memory.read_filter, *]

/-- Consecutive bytes written read back, every other byte is kept (R82). -/
theorem Memory.read_load (m : Memory) (k j : Nat) (vs : List Byte) :
    (Memory.load m k vs).read j
      = if h : k ≤ j ∧ j < k + vs.length then vs[j - k]'(by omega) else m.read j := by
  induction vs generalizing m k with
  | nil => simp [Memory.load]
  | cons v vs ih =>
    rw [Memory.load, ih, Memory.read_write]
    by_cases h1 : j = k
    · subst h1; simp
    · by_cases h2 : k + 1 ≤ j ∧ j < k + 1 + vs.length
      · have h3 : k ≤ j ∧ j < k + (v :: vs).length := by simp; omega
        rw [dif_pos h2, dif_pos h3]
        have : j - k = (j - (k + 1)) + 1 := by omega
        simp [this]
      · have h3 : ¬(k ≤ j ∧ j < k + (v :: vs).length) := by simp at h2 ⊢; omega
        rw [dif_neg h2, dif_neg h3, if_neg h1]

/-! ### The canonical form -/

theorem Memory.mem_insert {m : Memory} {k : Nat} {v : Byte} {c : Host.Cell} :
    c ∈ Memory.insert m k v ↔ c = (k, v) ∨ c ∈ m := by
  induction m with
  | nil => simp [Memory.insert]
  | cons d m ih =>
    obtain ⟨a, w⟩ := d
    by_cases h : k < a <;> simp [Memory.insert, h, ih]
    tauto

theorem Memory.pairwise_insert {m : Memory} {k : Nat} {v : Byte} (h : m.Pairwise (fun x y => x.1 < y.1))
    (hk : ∀ c ∈ m, c.1 ≠ k) : (Memory.insert m k v).Pairwise (fun x y => x.1 < y.1) := by
  induction m with
  | nil => simp [Memory.insert]
  | cons d m ih =>
    obtain ⟨a, w⟩ := d
    have hp := List.pairwise_cons.1 h
    have hak : a ≠ k := hk (a, w) List.mem_cons_self
    by_cases hlt : k < a
    · simp only [Memory.insert, hlt, if_true, List.pairwise_cons]
      refine ⟨?_, hp.1, hp.2⟩
      intro c hc
      rcases List.mem_cons.1 hc with rfl | hc
      · exact hlt
      · exact Nat.lt_trans hlt (hp.1 c hc)
    · simp only [Memory.insert, hlt, if_false, List.pairwise_cons]
      refine ⟨?_, ih hp.2 fun c hc => hk c (List.mem_cons_of_mem _ hc)⟩
      intro c hc
      rcases Memory.mem_insert.1 hc with rfl | hc
      · show a < k; omega
      · exact hp.1 c hc

/-- The cells after a write are the written one or old ones. -/
theorem Memory.mem_write {m : Memory} {k : Nat} {v : Byte} {c : Host.Cell}
    (h : c ∈ Memory.write m k v) : c = (k, v) ∨ c ∈ m := by
  unfold Memory.write at h
  split at h
  · exact .inr (List.mem_filter.1 h).1
  · rcases Memory.mem_insert.1 h with h | h
    · exact .inl h
    · exact .inr (List.mem_filter.1 h).1

theorem Memory.wf_nil : Memory.wf [] := by simp [Memory.wf]

/-- A write keeps the canonical form. -/
theorem Memory.wf_write {m : Memory} (h : m.wf) (k : Nat) (v : Byte) : (Memory.write m k v).wf := by
  have hf : (m.filter (fun cell => cell.1 != k)).Pairwise (fun x y => x.1 < y.1) := h.1.filter _
  refine ⟨?_, ?_⟩
  · unfold Memory.write
    split
    · exact hf
    · exact Memory.pairwise_insert hf (by simp)
  · intro c hc
    unfold Memory.write at hc
    split at hc
    · exact h.2 c (List.mem_filter.1 hc).1
    · rcases Memory.mem_insert.1 hc with rfl | hc
      · assumption
      · exact h.2 c (List.mem_filter.1 hc).1

/-- A bulk load keeps the canonical form. -/
theorem Memory.wf_load {m : Memory} (h : m.wf) (k : Nat) (vs : List Byte) : (Memory.load m k vs).wf := by
  induction vs generalizing m k with
  | nil => exact h
  | cons v vs ih => exact ih (Memory.wf_write h k v) (k + 1)

theorem Memory.mem_load {m : Memory} {k : Nat} {vs : List Byte} {c : Host.Cell}
    (h : c ∈ Memory.load m k vs) : (k ≤ c.1 ∧ c.1 < k + vs.length) ∨ c ∈ m := by
  induction vs generalizing m k with
  | nil => exact .inr h
  | cons v vs ih =>
    rcases ih h with h | h
    · left; simp; omega
    · rcases Memory.mem_write h with rfl | h
      · left; simp
      · exact .inr h

/-- The contents a registration takes are in canonical form and inside the size. -/
theorem Memory.wf_ofCells (size : Nat) (cells : List Host.Cell) :
    (Memory.ofCells size cells).wf ∧ ∀ c ∈ Memory.ofCells size cells, c.1 < size := by
  induction cells with
  | nil => exact ⟨Memory.wf_nil, by simp [Memory.ofCells]⟩
  | cons d cells ih =>
    obtain ⟨k, v⟩ := d
    unfold Memory.ofCells
    split
    · refine ⟨Memory.wf_write ih.1 k v, fun c hc => ?_⟩
      rcases Memory.mem_write hc with rfl | hc
      · assumption
      · exact ih.2 c hc
    · exact ih

/-- The first cell that names an offset below the size gives its byte. -/
theorem Memory.read_ofCells (size : Nat) (cells : List Host.Cell) (j : Nat) :
    (Memory.ofCells size cells).read j
      = if j < size then (cells.find? (fun c => c.1 == j)).elim Memory.unlisted (fun c => c.2)
        else Memory.unlisted := by
  induction cells with
  | nil => simp [Memory.ofCells, Memory.read]
  | cons d cells ih =>
    obtain ⟨k, v⟩ := d
    unfold Memory.ofCells
    by_cases hk : k < size
    · rw [if_pos hk, Memory.read_write]
      by_cases hj : j = k
      · subst hj; simp [hk]
      · rw [if_neg hj, ih]; simp [beq_false_of_ne (Ne.symm hj)]
    · rw [if_neg hk, ih]
      by_cases hj : j < size
      · have : k ≠ j := by omega
        simp [beq_false_of_ne this]
      · simp [hj]

end Sys2Proof.Machine
end

