-- ==== Sys2Proof/Laws/Routing.lean ====
section
/-! SUPPORT. Reads and writes of one byte: what they leave alone, what they commute with, and what a write
does to every later read. -/

namespace Sys2Proof.Machine

/-! ### What a read leaves alone -/

@[simp] theorem afterDeviceRead_regs (s : State) (i : Nat) : (s.afterDeviceRead i).regs = s.regs := by
  unfold State.afterDeviceRead; split <;> rfl

@[simp] theorem afterRead_regs (s : State) (sc : SecurityLevel) (a : Word) :
    (s.afterRead sc a).regs = s.regs := by
  unfold State.afterRead; split <;> simp

@[simp] theorem afterDeviceRead_level (s : State) (i : Nat) : (s.afterDeviceRead i).level = s.level := by
  unfold State.afterDeviceRead; split <;> rfl

@[simp] theorem afterRead_level (s : State) (sc : SecurityLevel) (a : Word) :
    (s.afterRead sc a).level = s.level := by
  unfold State.afterRead; split <;> simp

@[simp] theorem afterDeviceRead_backings (s : State) (i : Nat) :
    (s.afterDeviceRead i).backings = s.backings := by
  unfold State.afterDeviceRead; split <;> rfl

@[simp] theorem afterRead_backings (s : State) (sc : SecurityLevel) (a : Word) :
    (s.afterRead sc a).backings = s.backings := by
  unfold State.afterRead; split <;> simp

@[simp] theorem afterDeviceRead_resources (s : State) (i : Nat) : (s.afterDeviceRead i).resources = s.resources := by
  unfold State.afterDeviceRead; split <;> rfl

@[simp] theorem afterRead_resources (s : State) (sc : SecurityLevel) (a : Word) :
    (s.afterRead sc a).resources = s.resources := by
  unfold State.afterRead; split <;> simp

@[simp] theorem afterDeviceRead_mapped (s : State) (i : Nat) : (s.afterDeviceRead i).mapped = s.mapped := by
  unfold State.afterDeviceRead; split <;> rfl

@[simp] theorem afterRead_mapped (s : State) (sc : SecurityLevel) (a : Word) :
    (s.afterRead sc a).mapped = s.mapped := by
  unfold State.afterRead; split <;> simp

@[simp] theorem afterDeviceRead_nextHandle (s : State) (i : Nat) : (s.afterDeviceRead i).nextHandle = s.nextHandle := by
  unfold State.afterDeviceRead; split <;> rfl

@[simp] theorem afterRead_nextHandle (s : State) (sc : SecurityLevel) (a : Word) :
    (s.afterRead sc a).nextHandle = s.nextHandle := by
  unfold State.afterRead; split <;> simp

@[simp] theorem afterDeviceRead_sig (s : State) (i : Nat) : (s.afterDeviceRead i).sig = s.sig := by
  unfold State.afterDeviceRead; split <;> rfl

@[simp] theorem afterRead_sig (s : State) (sc : SecurityLevel) (a : Word) :
    (s.afterRead sc a).sig = s.sig := by
  unfold State.afterRead; split <;> simp

@[simp] theorem afterDeviceRead_outerLoop (s : State) (i : Nat) : (s.afterDeviceRead i).outerLoop = s.outerLoop := by
  unfold State.afterDeviceRead; split <;> rfl

@[simp] theorem afterRead_outerLoop (s : State) (sc : SecurityLevel) (a : Word) :
    (s.afterRead sc a).outerLoop = s.outerLoop := by
  unfold State.afterRead; split <;> simp

@[simp] theorem afterDeviceRead_hostMoves (s : State) (i : Nat) : (s.afterDeviceRead i).hostMoves = s.hostMoves := by
  unfold State.afterDeviceRead; split <;> rfl

@[simp] theorem afterRead_hostMoves (s : State) (sc : SecurityLevel) (a : Word) :
    (s.afterRead sc a).hostMoves = s.hostMoves := by
  unfold State.afterRead; split <;> simp

/-! ### What a write leaves alone -/

@[simp] theorem afterWrite_regs (s : State) (sc : SecurityLevel) (a : Word) (v : Byte) :
    (s.afterWrite sc a v).regs = s.regs := by
  unfold State.afterWrite; split <;> rfl

@[simp] theorem afterWrite_level (s : State) (sc : SecurityLevel) (a : Word) (v : Byte) :
    (s.afterWrite sc a v).level = s.level := by
  unfold State.afterWrite; split <;> rfl

@[simp] theorem afterWrite_resources (s : State) (sc : SecurityLevel) (a : Word) (v : Byte) :
    (s.afterWrite sc a v).resources = s.resources := by
  unfold State.afterWrite; split <;> rfl

@[simp] theorem afterWrite_mapped (s : State) (sc : SecurityLevel) (a : Word) (v : Byte) :
    (s.afterWrite sc a v).mapped = s.mapped := by
  unfold State.afterWrite; split <;> rfl

@[simp] theorem afterWrite_nextHandle (s : State) (sc : SecurityLevel) (a : Word) (v : Byte) :
    (s.afterWrite sc a v).nextHandle = s.nextHandle := by
  unfold State.afterWrite; split <;> rfl

@[simp] theorem afterWrite_sig (s : State) (sc : SecurityLevel) (a : Word) (v : Byte) :
    (s.afterWrite sc a v).sig = s.sig := by
  unfold State.afterWrite; split <;> rfl

@[simp] theorem afterWrite_draws (s : State) (sc : SecurityLevel) (a : Word) (v : Byte) :
    (s.afterWrite sc a v).draws = s.draws := by
  unfold State.afterWrite; split <;> rfl

@[simp] theorem afterWrite_outerLoop (s : State) (sc : SecurityLevel) (a : Word) (v : Byte) :
    (s.afterWrite sc a v).outerLoop = s.outerLoop := by
  unfold State.afterWrite; split <;> rfl

@[simp] theorem afterWrite_hostMoves (s : State) (sc : SecurityLevel) (a : Word) (v : Byte) :
    (s.afterWrite sc a v).hostMoves = s.hostMoves := by
  unfold State.afterWrite; split <;> rfl

/-! ### Registers and signals play no part in an access -/

@[simp] theorem resourceAt_withRegs (s : State) (rb : RegisterBank) (sc : SecurityLevel) (a : Word) :
    (s.withRegs rb).resourceAt sc a = s.resourceAt sc a := rfl

@[simp] theorem route_withRegs (s : State) (rb : RegisterBank) (sc : SecurityLevel) (a : Word) :
    (s.withRegs rb).route sc a = s.route sc a := rfl

@[simp] theorem accessible_withRegs (s : State) (rb : RegisterBank) (sc : SecurityLevel) (a : Word) :
    (s.withRegs rb).accessible sc a = s.accessible sc a := rfl

@[simp] theorem plainByte_withRegs (s : State) (rb : RegisterBank) (sc : SecurityLevel) (a : Word) :
    (s.withRegs rb).plainByte sc a = s.plainByte sc a := rfl

@[simp] theorem readValue_withRegs (s : State) (rb : RegisterBank) (sc : SecurityLevel) (a : Word) :
    (s.withRegs rb).readValue sc a = s.readValue sc a := rfl

@[simp] theorem afterRead_withRegs (s : State) (rb : RegisterBank) (sc : SecurityLevel) (a : Word) :
    (s.withRegs rb).afterRead sc a = (s.afterRead sc a).withRegs rb := by
  unfold State.afterRead
  rw [route_withRegs]
  split
  · unfold State.afterDeviceRead
    rw [withRegs_devices]
    split <;> rfl
  · rfl
  · rfl

@[simp] theorem afterWrite_withRegs (s : State) (rb : RegisterBank) (sc : SecurityLevel) (a : Word) (x : Byte) :
    (s.withRegs rb).afterWrite sc a x = (s.afterWrite sc a x).withRegs rb := by
  unfold State.afterWrite
  rw [route_withRegs]
  split <;> rfl

@[simp] theorem resourceAt_withSig (s : State) (g : Signals) (sc : SecurityLevel) (a : Word) :
    (s.withSig g).resourceAt sc a = s.resourceAt sc a := rfl

@[simp] theorem route_withSig (s : State) (g : Signals) (sc : SecurityLevel) (a : Word) :
    (s.withSig g).route sc a = s.route sc a := rfl

@[simp] theorem accessible_withSig (s : State) (g : Signals) (sc : SecurityLevel) (a : Word) :
    (s.withSig g).accessible sc a = s.accessible sc a := rfl

@[simp] theorem plainByte_withSig (s : State) (g : Signals) (sc : SecurityLevel) (a : Word) :
    (s.withSig g).plainByte sc a = s.plainByte sc a := rfl

@[simp] theorem readValue_withSig (s : State) (g : Signals) (sc : SecurityLevel) (a : Word) :
    (s.withSig g).readValue sc a = s.readValue sc a := rfl

@[simp] theorem afterRead_withSig (s : State) (g : Signals) (sc : SecurityLevel) (a : Word) :
    (s.withSig g).afterRead sc a = (s.afterRead sc a).withSig g := by
  unfold State.afterRead
  rw [route_withSig]
  split
  · unfold State.afterDeviceRead
    rw [withSig_devices]
    split <;> rfl
  · rfl
  · rfl

@[simp] theorem afterWrite_withSig (s : State) (g : Signals) (sc : SecurityLevel) (a : Word) (x : Byte) :
    (s.withSig g).afterWrite sc a x = (s.afterWrite sc a x).withSig g := by
  unfold State.afterWrite
  rw [route_withSig]
  split <;> rfl

@[simp] theorem resourceAt_withHostMoves (s : State) (ms : List HostMove) (sc : SecurityLevel) (a : Word) :
    (s.withHostMoves ms).resourceAt sc a = s.resourceAt sc a := rfl

@[simp] theorem route_withHostMoves (s : State) (ms : List HostMove) (sc : SecurityLevel) (a : Word) :
    (s.withHostMoves ms).route sc a = s.route sc a := rfl

@[simp] theorem accessible_withHostMoves (s : State) (ms : List HostMove) (sc : SecurityLevel) (a : Word) :
    (s.withHostMoves ms).accessible sc a = s.accessible sc a := rfl

@[simp] theorem plainByte_withHostMoves (s : State) (ms : List HostMove) (sc : SecurityLevel) (a : Word) :
    (s.withHostMoves ms).plainByte sc a = s.plainByte sc a := rfl

@[simp] theorem readValue_withHostMoves (s : State) (ms : List HostMove) (sc : SecurityLevel) (a : Word) :
    (s.withHostMoves ms).readValue sc a = s.readValue sc a := rfl

@[simp] theorem afterRead_withHostMoves (s : State) (ms : List HostMove) (sc : SecurityLevel) (a : Word) :
    (s.withHostMoves ms).afterRead sc a = (s.afterRead sc a).withHostMoves ms := by
  unfold State.afterRead
  rw [route_withHostMoves]
  split
  · unfold State.afterDeviceRead
    rw [withHostMoves_devices]
    split <;> rfl
  · rfl
  · rfl

@[simp] theorem afterWrite_withHostMoves (s : State) (ms : List HostMove) (sc : SecurityLevel) (a : Word) (x : Byte) :
    (s.withHostMoves ms).afterWrite sc a x = (s.afterWrite sc a x).withHostMoves ms := by
  unfold State.afterWrite
  rw [route_withHostMoves]
  split <;> rfl

@[simp] theorem accessible_withUmsor (s : State) (x : Bool) (sc : SecurityLevel) (a : Word) :
    (s.withUmsor x).accessible sc a = s.accessible sc a := rfl

@[simp] theorem readValue_withUmsor (s : State) (x : Bool) (sc : SecurityLevel) (a : Word) :
    (s.withUmsor x).readValue sc a = s.readValue sc a := rfl

/-- Where an access goes depends on the routing tables alone. -/
theorem route_congr {s t : State} (hm : t.mapped = s.mapped) (hr : t.resources = s.resources)
    (sc : SecurityLevel) (a : Word) : t.route sc a = s.route sc a := by
  unfold State.route State.resourceAt; rw [hm, hr]

@[simp] theorem route_afterRead (s : State) (sc sc' : SecurityLevel) (a b : Word) :
    (s.afterRead sc a).route sc' b = s.route sc' b := route_congr (by simp) (by simp) _ _

@[simp] theorem accessible_afterRead (s : State) (sc sc' : SecurityLevel) (a b : Word) :
    (s.afterRead sc a).accessible sc' b = s.accessible sc' b := by
  unfold State.accessible; rw [route_afterRead]

/-- A read changes no byte of a resource (spec/20_memory.md R79). -/
@[simp] theorem plainByte_afterRead (s : State) (sc sc' : SecurityLevel) (a b : Word) :
    (s.afterRead sc a).plainByte sc' b = s.plainByte sc' b := by
  unfold State.plainByte State.resourceByte; rw [route_afterRead, afterRead_backings]

/-- A read of a plain resource changes nothing and gives its byte (R68, R79). -/
theorem read_of_plainByte {s : State} {sc : SecurityLevel} {a : Word} {v : Byte}
    (h : s.plainByte sc a = some v) :
    s.accessible sc a = true ∧ s.readValue sc a = v ∧ s.afterRead sc a = s := by
  unfold State.plainByte at h
  unfold State.accessible State.readValue State.afterRead
  cases hr : s.route sc a <;> simp_all

/-! ### A write changes one byte of one backing resource -/

/-- The byte stored reads back, every other byte of every backing resource is kept (R68). -/
theorem readBacking_storeBacking (ms : List Backing) (p q k j : Nat) (v : Byte) :
    readBacking (storeBacking ms p k v) q j
      = if p = q ∧ k = j ∧ p < ms.length then v else readBacking ms q j := by
  unfold readBacking storeBacking
  rw [List.getElem?_modify]
  by_cases hp : p = q
  · subst hp
    by_cases hl : p < ms.length
    · simp [Backing.store, Memory.read_write, hl, eq_comm]
    · simp [hl]
  · cases h : ms[q]? <;> simp [hp]

@[simp] theorem storeBacking_sizes (ms : List Backing) (p k : Nat) (v : Byte) :
    (storeBacking ms p k v).map Backing.size = ms.map Backing.size := by
  refine List.ext_getElem? fun i => ?_
  simp only [storeBacking, List.getElem?_map, List.getElem?_modify]
  cases ms[i]? <;> simp
  split <;> rfl

@[simp] theorem route_afterWrite (s : State) (sc sc' : SecurityLevel) (a b : Word) (v : Byte) :
    (s.afterWrite sc a v).route sc' b = s.route sc' b := route_congr (by simp) (by simp) _ _

/-- A write leaves every scope's set of accessible addresses as it was. -/
@[simp] theorem accessible_afterWrite (s : State) (sc sc' : SecurityLevel) (a b : Word) (v : Byte) :
    (s.afterWrite sc a v).accessible sc' b = s.accessible sc' b := by
  unfold State.accessible; rw [route_afterWrite]

@[simp] theorem cellAt_afterWrite (s : State) (sc sc' : SecurityLevel) (a b : Word) (v : Byte) :
    (s.afterWrite sc a v).cellAt sc' b = s.cellAt sc' b := by
  unfold State.cellAt; rw [route_afterWrite]

@[simp] theorem cellAt_afterRead (s : State) (sc sc' : SecurityLevel) (a b : Word) :
    (s.afterRead sc a).cellAt sc' b = s.cellAt sc' b := by
  unfold State.cellAt; rw [route_afterRead]

/-- The byte a plain resource answers with is that of its cell. -/
theorem plainByte_eq (s : State) (sc : SecurityLevel) (a : Word) :
    s.plainByte sc a = (s.cellAt sc a).map fun c => readBacking s.backings c.1 c.2 := by
  unfold State.plainByte State.cellAt State.resourceByte
  cases s.route sc a <;> rfl

/-- The backing resources after a write: one byte of one of them where the write reaches a plain resource, as
before otherwise (R73, R74). -/
theorem afterWrite_backings (s : State) (sc : SecurityLevel) (a : Word) (v : Byte) :
    (s.afterWrite sc a v).backings
      = match s.cellAt sc a with
        | some c => storeBacking s.backings c.1 c.2 v
        | none => s.backings := by
  unfold State.afterWrite State.cellAt
  cases s.route sc a <;> rfl

@[simp] theorem afterWrite_sizes (s : State) (sc : SecurityLevel) (a : Word) (v : Byte) :
    (s.afterWrite sc a v).backings.map Backing.size = s.backings.map Backing.size := by
  rw [afterWrite_backings]; split <;> simp

/-- A byte that is not the written one is as before, in every scope (R68, R73). -/
theorem plainByte_afterWrite_other {s : State} {sc sc' : SecurityLevel} {a b : Word}
    (h : s.cellAt sc' b = none ∨ s.cellAt sc a ≠ s.cellAt sc' b) (v : Byte) :
    (s.afterWrite sc a v).plainByte sc' b = s.plainByte sc' b := by
  rw [plainByte_eq, plainByte_eq, cellAt_afterWrite, afterWrite_backings]
  cases hb : s.cellAt sc' b with
  | none => rfl
  | some c =>
    cases ha : s.cellAt sc a with
    | none => rfl
    | some d =>
      simp only [Option.map_some, readBacking_storeBacking]
      rw [if_neg]
      rintro ⟨h1, h2, -⟩
      rcases h with h | h
      · rw [hb] at h; cases h
      · exact h (by rw [ha, hb, Prod.ext h1 h2])

/-- The written byte reads back wherever the same byte is reached (R65, R68). -/
theorem plainByte_afterWrite_same {s : State} {sc sc' : SecurityLevel} {a b : Word} {c : Nat × Nat}
    (ha : s.cellAt sc a = some c) (hb : s.cellAt sc' b = some c) (hc : c.1 < s.backings.length) (v : Byte) :
    (s.afterWrite sc a v).plainByte sc' b = some v := by
  rw [plainByte_eq, cellAt_afterWrite, afterWrite_backings, ha, hb]
  simp [readBacking_storeBacking, hc]

/-! ### Addresses and registrations -/

theorem Resource.contains_of_covers {r : Resource} {sc : SecurityLevel} {a : Word}
    (h : r.covers sc a = true) : r.first.toNat ≤ a.toNat ∧ a.toNat ≤ r.last.toNat := by
  unfold Resource.covers Resource.contains at h
  simp only [Bool.and_eq_true, decide_eq_true_eq] at h
  exact h.2

theorem Resource.offset_inj {r : Resource} {sc sc' : SecurityLevel} {a b : Word}
    (ha : r.covers sc a = true) (hb : r.covers sc' b = true) (h : r.offset a = r.offset b) : a = b := by
  have ha := Resource.contains_of_covers ha
  have hb := Resource.contains_of_covers hb
  unfold Resource.offset at h
  exact BitVec.eq_of_toNat_eq (by omega)

theorem State.resourceAt_some {s : State} {sc : SecurityLevel} {a : Word} {r : Resource}
    (h : s.resourceAt sc a = some r) : r ∈ s.resources ∧ r.covers sc a = true := by
  unfold State.resourceAt at h
  exact ⟨List.mem_of_find?_eq_some h, by simpa using List.find?_some h⟩

theorem State.route_resource {s : State} {sc : SecurityLevel} {a : Word} {r : Resource}
    (h : s.route sc a = .resource r) :
    s.mapped.find? (fun g => g.standsAt sc a) = none ∧ s.resourceAt sc a = some r := by
  unfold State.route at h
  split at h
  · cases h
  · split at h
    · cases h; exact ⟨‹_›, ‹_›⟩
    · cases h

/-- The backing resource a well-formed machine's cell names is there. -/
theorem State.cellAt_lt {s : State} (hw : s.wf) {sc : SecurityLevel} {a : Word} {c : Nat × Nat}
    (h : s.cellAt sc a = some c) : c.1 < s.backings.length := by
  unfold State.cellAt at h
  cases hr : s.route sc a with
  | device i => rw [hr] at h; cases h
  | unmapped => rw [hr] at h; cases h
  | resource r =>
    rw [hr] at h
    cases h
    have hm := (State.resourceAt_some (State.route_resource hr).2).1
    obtain ⟨-, hs, -⟩ := hw.2.1 r hm
    by_contra hlt
    rw [List.getElem?_eq_none (Nat.le_of_not_lt hlt)] at hs
    cases hs

/-- Two different members of a list of registrations have different handles. -/
theorem pairwise_ne {rs : List Resource} (hd : rs.Pairwise (fun q r => q.handle ≠ r.handle))
    {q r : Resource} (hq : q ∈ rs) (hr : r ∈ rs) (hne : q ≠ r) : q.handle ≠ r.handle := by
  induction rs with
  | nil => cases hq
  | cons x rs ih =>
    have hp := List.pairwise_cons.1 hd
    rcases List.mem_cons.1 hq with rfl | hq' <;> rcases List.mem_cons.1 hr with rfl | hr'
    · exact absurd rfl hne
    · exact hp.1 r hr'
    · exact (hp.1 q hq').symm
    · exact ih hp.2 hq' hr'

/-! ### The three shapes of a read and of a write -/

theorem memReadScope_ok {s : State} {sc : SecurityLevel} {a : Word} (h : s.accessible sc a = true) :
    memReadScope sc a s = .ok (s.readValue sc a, s.afterRead sc a) := by
  unfold memReadScope; rw [if_pos h]

theorem memReadScope_fault {s : State} {sc : SecurityLevel} {a : Word} (h : s.accessible sc a = false) :
    memReadScope sc a s = .error (.memoryUnmapped a s) := by
  unfold memReadScope; rw [h]; rfl

theorem memRead_ok {s : State} {a : Word} (h : s.accessible s.level a = true) :
    memRead a s = .ok (s.readValue s.level a, s.afterRead s.level a) := memReadScope_ok h

theorem memRead_fault {s : State} {a : Word} (h : s.accessible s.level a = false) :
    memRead a s = .error (.memoryUnmapped a s) := memReadScope_fault h

theorem memWrite_ok {s : State} {a : Word} (h : s.accessible s.level a = true) (v : Byte) :
    memWrite a v s = .ok (s.afterWrite s.level a v) := by
  unfold memWrite; rw [if_pos h]

theorem memWrite_fault {s : State} {a : Word} (h : s.accessible s.level a = false) (v : Byte) :
    memWrite a v s = .error (.memoryUnmapped a s) := by
  unfold memWrite; rw [h]; rfl

end Sys2Proof.Machine
end

