-- ==== Sys2Proof/Laws/Cycle.lean ====
section
/-! SUPPORT. The steps of a cycle, one lemma per way each can go: acquiring operands, executing, writing
back, and how they make a cycle. -/

namespace Sys2Proof.Machine

@[simp] theorem ok_bind {ε α β : Type} (x : α) (f : α → Except ε β) : (Except.ok x >>= f) = f x := rfl

@[simp] theorem error_bind {ε α β : Type} (x : ε) (f : α → Except ε β) :
    (Except.error x >>= f) = Except.error x := rfl

@[simp] theorem ok_map {ε α β : Type} (x : α) (f : α → β) :
    (Except.ok x : Except ε α).map f = .ok (f x) := rfl

@[simp] theorem attempt_some {α : Type} (rb : RegisterBank) (x : α) : rb.attempt (some x) = .ok x := rfl

@[simp] theorem attempt_none {α : Type} (rb : RegisterBank) :
    rb.attempt (none : Option α) = .error rb := rfl

@[simp] theorem orBankError_ok {α : Type} (x : α) (s : State) : orBankError (.ok x) s = .ok x := rfl

@[simp] theorem orBankError_error {α : Type} (rb : RegisterBank) (s : State) :
    orBankError (.error rb : BankResult α) s = .error (.registerBankError (s.withRegs rb)) := rfl

/-! ### Register fields -/

@[simp] theorem readField_none (rb : RegisterBank) : rb.readField none = .error rb := rfl

@[simp] theorem readPairField_none (rb : RegisterBank) : rb.readPairField none = .error rb := rfl

@[simp] theorem writeField_none (rb : RegisterBank) (v : Byte) : rb.writeField none v = .error rb := rfl

@[simp] theorem writePairField_none (rb : RegisterBank) (v : Word) :
    rb.writePairField none v = .error rb := rfl

@[simp] theorem readField_r8 (rb : RegisterBank) (x : Reg8) :
    rb.readField (some (.r8 x)) = .ok (rb.get8 x) := rfl

@[simp] theorem readPairField_r16 (rb : RegisterBank) (x : Reg16) :
    rb.readPairField (some (.r16 x)) = .ok (rb.get16 x) := rfl

@[simp] theorem writeField_r8 (rb : RegisterBank) (x : Reg8) (v : Byte) :
    rb.writeField (some (.r8 x)) v = .ok (rb.set8 x v) := rfl

@[simp] theorem writePairField_r16 (rb : RegisterBank) (x : Reg16) (v : Word) :
    rb.writePairField (some (.r16 x)) v = .ok (rb.set16 x v) := rfl

/-! ### The descriptors (R139), one by one -/

@[simp] theorem traitsOf_register :
    traitsOf .register = some {} := rfl

@[simp] theorem traitsOf_immediate :
    traitsOf .immediate = some { op1 := .atPC } := rfl

@[simp] theorem traitsOf_singleImmediatePair :
    traitsOf .singleImmediatePair = some { op1 := .atPC } := rfl

@[simp] theorem traitsOf_registerIndexedSource :
    traitsOf .registerIndexedSource = some { op1 := .atPC, op2 := .atComposed } := rfl

@[simp] theorem traitsOf_registerIndexedDestination :
    traitsOf .registerIndexedDestination = some { op1 := .atPC, wb := .atOperandAddress } := rfl

@[simp] theorem traitsOf_registerIndirectSource :
    traitsOf .registerIndirectSource = some { op1 := .atRegister } := rfl

@[simp] theorem traitsOf_registerIndirectDestination :
    traitsOf .registerIndirectDestination = some { wb := .atRegister } := rfl

@[simp] theorem traitsOf_registerIndirectSourceAndDestination :
    traitsOf .registerIndirectSourceAndDestination = some { op1 := .atRegister, wb := .atRegister } := rfl

@[simp] theorem traitsOf_extendedSource :
    traitsOf .extendedSource = some { op1 := .atPC, op2 := .atPC, op3 := true } := rfl

@[simp] theorem traitsOf_extendedDestination :
    traitsOf .extendedDestination = some { op1 := .atPC, op2 := .atPC, wb := .atComposed } := rfl

@[simp] theorem traitsOf_immediateRegisterIndirect :
    traitsOf .immediateRegisterIndirect = some { op1 := .atPC, wb := .atRegister } := rfl

@[simp] theorem traitsOf_registerIndirectSourceIncrement :
    traitsOf .registerIndirectSourceIncrement = some { op1 := .atRegister, incSrc := true } := rfl

@[simp] theorem traitsOf_registerIndirectSourceDecrement :
    traitsOf .registerIndirectSourceDecrement = some { op1 := .atRegister, decSrc := true } := rfl

@[simp] theorem traitsOf_registerIndirectDestinationIncrement :
    traitsOf .registerIndirectDestinationIncrement = some { incDst := true, wb := .atRegister } := rfl

@[simp] theorem traitsOf_registerIndirectDestinationDecrement :
    traitsOf .registerIndirectDestinationDecrement = some { decDst := true, wb := .atRegister } := rfl

@[simp] theorem traitsOf_registerImplicitSource :
    traitsOf .registerImplicitSource = some { op1 := .implicitReg } := rfl

@[simp] theorem traitsOf_registerImplicitDestination :
    traitsOf .registerImplicitDestination = some { wb := .implicitReg } := rfl

@[simp] theorem traitsOf_immediateImplicitSource :
    traitsOf .immediateImplicitSource = some { op1 := .atPC, op2 := .implicitImm } := rfl

@[simp] theorem traitsOf_immediateImplicitDestination :
    traitsOf .immediateImplicitDestination = some { op1 := .atPC, wb := .implicitImm } := rfl

@[simp] theorem traitsOf_immediatePair :
    traitsOf .immediatePair = some { op1 := .atPC, op2 := .atPC } := rfl

@[simp] theorem traitsOf_registerPair :
    traitsOf .registerPair = some {} := rfl

@[simp] theorem traitsOf_registerIndirectSourcePair :
    traitsOf .registerIndirectSourcePair = some { op1 := .atRegister, op2 := .direct, incSrc := true } := rfl

@[simp] theorem traitsOf_registerIndirectDestinationPair :
    traitsOf .registerIndirectDestinationPair = some { wb := .pairAtSP } := rfl

@[simp] theorem traitsOf_extendedDestinationPair :
    traitsOf .extendedDestinationPair = some { op1 := .atPC, op2 := .atPC, wb := .pairAtImm } := rfl

@[simp] theorem traitsOf_subRoutineCall :
    traitsOf .subRoutineCall = some { op1 := .atPC, op2 := .atPC, wb := .pairAtSP } := rfl

/-! ### Signals -/

/-- Step 4 leaves a quiet set of signals where the identity raises none. -/
@[simp] theorem resetTransient_withUmsor (g : Signals) (v : Bool) :
    Signals.resetTransient { g with umsor := v } = g.quiet v := rfl

@[simp] theorem quiet_ime (g : Signals) (v : Bool) : (g.quiet v).ime = g.ime := rfl

@[simp] theorem quiet_umsor (g : Signals) (v : Bool) : (g.quiet v).umsor = v := rfl

@[simp] theorem quiet_aborted (g : Signals) (v : Bool) : (g.quiet v).aborted = false := rfl

@[simp] theorem resetTransient_quiet (g : Signals) (v : Bool) : (g.quiet v).resetTransient = g.quiet v :=
  rfl

/-! ### How the steps make a cycle -/

theorem cycle_next {h : Handler} {di di₁ di₂ : DecodedInstruction} {t : Traits} {s s₁ s₂ s₃ : State}
    (ht : traitsOf di.mode = some t)
    (ha : acquire t di (s.withUmsor di.requestsUserSource) = .ok (di₁, s₁))
    (he : executeStep h di₁ s₁ = .ok (di₂, s₂)) (hw : writeBack t di₂ s₂ = .ok s₃) :
    cycle h di s = .next s₃ := by
  unfold cycle runSteps
  simp only [ht, ha, he, hw, ok_bind, finish]

theorem cycle_fault_acquire {h : Handler} {di : DecodedInstruction} {t : Traits} {s : State} {f : Fault}
    (ht : traitsOf di.mode = some t)
    (ha : acquire t di (s.withUmsor di.requestsUserSource) = .error f) : cycle h di s = .fault f := by
  unfold cycle runSteps
  simp only [ht, ha, error_bind, finish]

theorem cycle_fault_writeBack {h : Handler} {di di₁ di₂ : DecodedInstruction} {t : Traits}
    {s s₁ s₂ : State} {f : Fault} (ht : traitsOf di.mode = some t)
    (ha : acquire t di (s.withUmsor di.requestsUserSource) = .ok (di₁, s₁))
    (he : executeStep h di₁ s₁ = .ok (di₂, s₂)) (hw : writeBack t di₂ s₂ = .error f) :
    cycle h di s = .fault f := by
  unfold cycle runSteps
  simp only [ht, ha, he, hw, ok_bind, finish]

/-- Everything a cycle that completes went through. -/
theorem cycle_next_inv {h : Handler} {di : DecodedInstruction} {s s' : State}
    (hc : cycle h di s = .next s') :
    ∃ t di₁ s₁ di₂ s₂, traitsOf di.mode = some t
      ∧ acquire t di (s.withUmsor di.requestsUserSource) = .ok (di₁, s₁)
      ∧ executeStep h di₁ s₁ = .ok (di₂, s₂) ∧ writeBack t di₂ s₂ = .ok s' := by
  unfold cycle runSteps at hc
  cases ht : traitsOf di.mode with
  | none => rw [ht] at hc; cases hc
  | some t =>
    simp only [ht] at hc
    cases ha : acquire t di (s.withUmsor di.requestsUserSource) with
    | error f => rw [ha] at hc; cases hc
    | ok p =>
      obtain ⟨di₁, s₁⟩ := p
      simp only [ha, ok_bind] at hc
      cases he : executeStep h di₁ s₁ with
      | error f => rw [he] at hc; cases hc
      | ok q =>
        obtain ⟨di₂, s₂⟩ := q
        simp only [he, ok_bind] at hc
        cases hw : writeBack t di₂ s₂ with
        | error f => rw [hw] at hc; cases hc
        | ok s₃ =>
          rw [hw] at hc
          cases hc
          exact ⟨t, di₁, s₁, di₂, s₂, rfl, ha, he, hw⟩

/-! ### Step 4 -/

theorem executeStep_unconditional
    {f : RegisterBank → DecodedInstruction → BankResult (RegisterBank × DecodedInstruction)}
    {di di' : DecodedInstruction} {s : State} {rb : RegisterBank} (hf : f s.regs di = .ok (rb, di')) :
    executeStep (.unconditional f) di s
      = .ok (di', (s.withRegs rb).withSig (s.sig.resetTransient.derive di'.opcode)) := by
  unfold executeStep
  simp only [withSig_regs, hf, orBankError_ok, ok_bind]
  rfl

theorem executeStep_taken
    {f : RegisterBank → DecodedInstruction → BankResult (RegisterBank × DecodedInstruction × Bool)}
    {di di' : DecodedInstruction} {s : State} {rb : RegisterBank}
    (hf : f s.regs di = .ok (rb, di', false)) :
    executeStep (.conditional f) di s
      = .ok (di', (s.withRegs rb).withSig (s.sig.resetTransient.derive di'.opcode)) := by
  unfold executeStep
  simp only [withSig_regs, hf, orBankError_ok, ok_bind]
  rfl

theorem executeStep_aborted
    {f : RegisterBank → DecodedInstruction → BankResult (RegisterBank × DecodedInstruction × Bool)}
    {di di' : DecodedInstruction} {s : State} {rb : RegisterBank}
    (hf : f s.regs di = .ok (rb, di', true)) :
    executeStep (.conditional f) di s
      = .ok (di', (s.withRegs rb).withSig { s.sig.resetTransient with aborted := true }) := by
  unfold executeStep
  simp only [withSig_regs, hf, orBankError_ok, ok_bind]
  rfl

/-- An Execute that fails leaves the registers it wrote before the failure, the transient signals reset (R433). -/
theorem executeStep_fault
    {f : RegisterBank → DecodedInstruction → BankResult (RegisterBank × DecodedInstruction)}
    {di : DecodedInstruction} {s : State} {rb : RegisterBank} (hf : f s.regs di = .error rb) :
    executeStep (.unconditional f) di s
      = .error (.registerBankError ((s.withRegs rb).withSig s.sig.resetTransient)) := by
  unfold executeStep
  simp only [withSig_regs, hf, orBankError_error, error_bind]
  rfl

/-- The same of a conditional handler. -/
theorem executeStep_conditional_fault
    {f : RegisterBank → DecodedInstruction → BankResult (RegisterBank × DecodedInstruction × Bool)}
    {di : DecodedInstruction} {s : State} {rb : RegisterBank} (hf : f s.regs di = .error rb) :
    executeStep (.conditional f) di s
      = .error (.registerBankError ((s.withRegs rb).withSig s.sig.resetTransient)) := by
  unfold executeStep
  simp only [withSig_regs, hf, orBankError_error, error_bind]
  rfl

/-- What step 4 can do: registers and signals only. -/
theorem executeStep_inv {h : Handler} {di di' : DecodedInstruction} {s s' : State}
    (he : executeStep h di s = .ok (di', s')) : ∃ rb g, s' = (s.withRegs rb).withSig g := by
  unfold executeStep at he
  cases h with
  | unconditional f =>
    simp only [withSig_regs] at he
    cases hf : f s.regs di with
    | error _ => rw [hf] at he; cases he
    | ok p => rw [hf] at he; cases he; exact ⟨_, _, rfl⟩
  | conditional f =>
    simp only [withSig_regs] at he
    cases hf : f s.regs di with
    | error _ => rw [hf] at he; cases he
    | ok p =>
      rw [hf] at he
      simp only [orBankError_ok, ok_bind] at he
      split at he <;> cases he <;> exact ⟨_, _, rfl⟩

/-! ### Step 3 -/

/-- No memory operand: operand bytes at PC are there already. -/
theorem acquire_none {t : Traits} (h1 : t.op1 = .skip ∨ t.op1 = .atPC) (h2 : t.op2 = .skip ∨ t.op2 = .atPC)
    (h3 : t.op3 = false) (di : DecodedInstruction) (s : State) : acquire t di s = .ok (di, s) := by
  unfold acquire acquireOp1 acquireOp2 acquireOp3
  rcases h1 with h1 | h1 <;> rcases h2 with h2 | h2 <;> simp [h1, h2, h3]

/-- The read through the source pair, and the pair stepped after it. -/
theorem acquire_atRegister {t : Traits} (h1 : t.op1 = .atRegister) (h2 : t.op2 = .skip)
    (h3 : t.op3 = false) {di : DecodedInstruction} {p : Reg16} (hp : di.src = some (.r16 p)) {s : State}
    (ha : s.accessible (sourceScope s) (s.regs.get16 p) = true) :
    acquire t di s
      = (stepSrc t di (s.afterRead (sourceScope s) (s.regs.get16 p))).map (fun s' =>
          ({ di with op1 := s.readValue (sourceScope s) (s.regs.get16 p) }, s')) := by
  unfold acquire acquireOp1 acquireOp2 acquireOp3
  simp only [h1, h2, h3, hp, readPairField_r16, orBankError_ok, ok_bind, memReadScope_ok ha]
  cases stepSrc t di (s.afterRead (sourceScope s) (s.regs.get16 p)) <;> rfl

/-- The read through the source pair where nothing is mapped. -/
theorem acquire_atRegister_fault {t : Traits} (h1 : t.op1 = .atRegister) {di : DecodedInstruction}
    {p : Reg16} (hp : di.src = some (.r16 p)) {s : State}
    (ha : s.accessible (sourceScope s) (s.regs.get16 p) = false) :
    acquire t di s = .error (.memoryUnmapped (s.regs.get16 p) s) := by
  unfold acquire acquireOp1
  simp only [h1, hp, readPairField_r16, orBankError_ok, ok_bind, memReadScope_fault ha, error_bind]

/-- The displaced read (R145). -/
theorem acquire_indexed {t : Traits} (h1 : t.op1 = .atPC) (h2 : t.op2 = .atComposed) (h3 : t.op3 = false)
    {di : DecodedInstruction} {p : Reg16} (hp : di.src = some (.r16 p)) {s : State}
    (ha : s.accessible s.level (s.regs.get16 p + sext di.op1) = true) :
    acquire t di s
      = .ok ({ di with op2 := s.readValue s.level (s.regs.get16 p + sext di.op1) },
          s.afterRead s.level (s.regs.get16 p + sext di.op1)) := by
  unfold acquire acquireOp1 acquireOp2 acquireOp3
  simp [h1, h2, h3, hp, memRead_ok ha]

/-- The third operand (R147). -/
theorem acquire_extended {t : Traits} (h1 : t.op1 = .atPC) (h2 : t.op2 = .atPC) (h3 : t.op3 = true)
    {di : DecodedInstruction} {s : State} (ha : s.accessible s.level di.immediate = true) :
    acquire t di s
      = .ok ({ di with op3 := s.readValue s.level di.immediate }, s.afterRead s.level di.immediate) := by
  unfold acquire acquireOp1 acquireOp2 acquireOp3
  simp [h1, h2, h3, memRead_ok ha]

/-- The read at 0xFF00 | register (R142). -/
theorem acquire_implicitReg {t : Traits} (h1 : t.op1 = .implicitReg) (h2 : t.op2 = .skip)
    (h3 : t.op3 = false) {di : DecodedInstruction} {x : Reg8} (hx : di.src = some (.r8 x)) {s : State}
    (ha : s.accessible s.level (highAddress (s.regs.get8 x)) = true) :
    acquire t di s
      = .ok ({ di with op1 := s.readValue s.level (highAddress (s.regs.get8 x)) },
          s.afterRead s.level (highAddress (s.regs.get8 x))) := by
  unfold acquire acquireOp1 acquireOp2 acquireOp3
  simp [h1, h2, h3, hx, memRead_ok ha]

/-- The read at 0xFF00 | operand 1 (R146). -/
theorem acquire_implicitImm {t : Traits} (h1 : t.op1 = .atPC) (h2 : t.op2 = .implicitImm)
    (h3 : t.op3 = false) {di : DecodedInstruction} {s : State}
    (ha : s.accessible s.level (highAddress di.op1) = true) :
    acquire t di s
      = .ok ({ di with op2 := s.readValue s.level (highAddress di.op1) },
          s.afterRead s.level (highAddress di.op1)) := by
  unfold acquire acquireOp1 acquireOp2 acquireOp3
  simp [h1, h2, h3, memRead_ok ha]

/-- The two reads of a pop (R143, R144). -/
theorem acquire_pop {di : DecodedInstruction} (hp : di.src = some (.r16 .sp)) {s : State}
    (hu : s.sig.umsor = false) (ha : s.accessible s.level s.regs.sp = true)
    (hb : s.accessible s.level (s.regs.sp + 1) = true) :
    acquire { op1 := .atRegister, op2 := .direct, incSrc := true } di s
      = .ok ({ di with
            op1 := s.readValue s.level s.regs.sp
            op2 := (s.afterRead s.level s.regs.sp).readValue s.level (s.regs.sp + 1) },
          ((s.afterRead s.level s.regs.sp).afterRead s.level (s.regs.sp + 1)).withRegs
            (s.regs.set16 .sp (s.regs.sp + 1 + 1))) := by
  unfold acquire acquireOp1 acquireOp2 acquireOp3
  have hb' : ((s.afterRead s.level s.regs.sp).withRegs (s.regs.set16 .sp (s.regs.sp + 1))).accessible
      s.level (s.regs.sp + 1) = true := by
    rw [accessible_withRegs, accessible_afterRead, hb]
  simp only [hp, hu, sourceScope, memReadScope_ok, ha, stepSrc, readPairField_r16, orBankError_ok,
    ok_bind, get16_sp, afterRead_regs, afterRead_level, afterRead_sig, withRegs_regs, withRegs_level,
    withRegs_sig, writePairField_r16, if_true, if_false, Bool.or_false, Bool.false_eq_true, set16_sp_sp,
    memReadScope_ok hb', readValue_withRegs, afterRead_withRegs, withRegs_withRegs]
  rfl

/-! ### Step 5 -/

theorem writeBack_aborted {t : Traits} {di : DecodedInstruction} {s : State} (h : s.sig.aborted = true) :
    writeBack t di s = .ok s := by
  unfold writeBack; rw [if_pos h]

theorem writeBack_skip {t : Traits} (ht : t.wb = .skip) (di : DecodedInstruction) (s : State) :
    writeBack t di s = .ok s := by
  unfold writeBack; rw [ht]; split <;> rfl

theorem writeBack_operandAddress {t : Traits} (ht : t.wb = .atOperandAddress) {di : DecodedInstruction}
    {p : Reg16} (hp : di.dst = some (.r16 p)) {s : State} (hs : s.sig.aborted = false) :
    writeBack t di s = memWrite (s.regs.get16 p + sext di.op1) di.res1 s := by
  unfold writeBack; simp [ht, hp, hs]

theorem writeBack_atRegister {t : Traits} (ht : t.wb = .atRegister) {di : DecodedInstruction}
    {p : Reg16} (hp : di.dst = some (.r16 p)) {s : State} (hs : s.sig.aborted = false) :
    writeBack t di s = (memWrite (s.regs.get16 p) di.res1 s).bind (stepDst t di) := by
  unfold writeBack; simp only [ht, hp, hs, readPairField_r16, orBankError_ok, ok_bind]; rfl

theorem writeBack_composed {t : Traits} (ht : t.wb = .atComposed) {di : DecodedInstruction}
    {s : State} (hs : s.sig.aborted = false) :
    writeBack t di s = memWrite di.immediate di.res1 s := by
  unfold writeBack; simp [ht, hs]

theorem writeBack_implicitReg {t : Traits} (ht : t.wb = .implicitReg) {di : DecodedInstruction}
    {x : Reg8} (hx : di.dst = some (.r8 x)) {s : State} (hs : s.sig.aborted = false) :
    writeBack t di s = memWrite (highAddress (s.regs.get8 x)) di.res1 s := by
  unfold writeBack; simp [ht, hx, hs]

theorem writeBack_implicitImm {t : Traits} (ht : t.wb = .implicitImm) {di : DecodedInstruction}
    {s : State} (hs : s.sig.aborted = false) :
    writeBack t di s = memWrite (highAddress di.op1) di.res1 s := by
  unfold writeBack; simp [ht, hs]

/-- The push (R167). -/
theorem pushResult_ok {di : DecodedInstruction} {s : State}
    (ha : s.accessible s.level (s.regs.sp - 2 + 1) = true)
    (hb : s.accessible s.level (s.regs.sp - 2) = true) :
    pushResult di s
      = .ok (((s.afterWrite s.level (s.regs.sp - 2 + 1) di.res2).afterWrite s.level (s.regs.sp - 2)
          di.res1).withRegs (s.regs.set16 .sp (s.regs.sp - 2))) := by
  unfold pushResult memWrite
  simp only [ha, if_true, ok_bind, afterWrite_level, accessible_afterWrite, hb, afterWrite_regs]

theorem writeBack_pairAtSP {t : Traits} (ht : t.wb = .pairAtSP) {di : DecodedInstruction} {s : State}
    (hs : s.sig.aborted = false) : writeBack t di s = pushResult di s := by
  unfold writeBack; simp [ht, hs]

theorem writeBack_pairAtImm {t : Traits} (ht : t.wb = .pairAtImm) {di : DecodedInstruction} {s : State}
    (hs : s.sig.aborted = false) :
    writeBack t di s = memWriteWord di.immediate (join di.res2 di.res1) s := by
  unfold writeBack; simp [ht, hs]

/-- Two bytes written, low byte first (R81, R170). -/
theorem memWriteWord_ok {s : State} {a : Word} (ha : s.accessible s.level a = true)
    (hb : s.accessible s.level (a + 1) = true) (v : Word) :
    memWriteWord a v s
      = .ok ((s.afterWrite s.level a (lo v)).afterWrite s.level (a + 1) (hi v)) := by
  unfold memWriteWord memWrite
  simp only [ha, if_true, ok_bind, afterWrite_level, accessible_afterWrite, hb]

end Sys2Proof.Machine
end

