-- ==== Sys2Proof/Laws/Fetch.lean ====
section
/-! SUPPORT. Fetching: one byte, the opcode bytes, the operand bytes (spec/40_pipeline.md R131, R141), and
the turn of an outer loop that has no move lined up. -/

namespace Sys2Proof.Machine

@[simp] theorem advancePc_level (s : State) : s.advancePc.level = s.level := rfl

@[simp] theorem advancePc_pc (s : State) : s.advancePc.regs.pc = s.regs.pc + 1 := rfl

@[simp] theorem advancePc_plainByte (s : State) (sc : SecurityLevel) (a : Word) :
    s.advancePc.plainByte sc a = s.plainByte sc a := rfl

@[simp] theorem advancePc_accessible (s : State) (sc : SecurityLevel) (a : Word) :
    s.advancePc.accessible sc a = s.accessible sc a := rfl

theorem fetchByte_ok {s : State} (h : s.accessible s.level s.regs.pc = true) :
    fetchByte s = .ok (s.readValue s.level s.regs.pc, (s.afterRead s.level s.regs.pc).advancePc) := by
  unfold fetchByte; rw [memRead_ok h]; rfl

theorem fetchByte_fault {s : State} (h : s.accessible s.level s.regs.pc = false) :
    fetchByte s = .error (.memoryUnmapped s.regs.pc s) := by
  unfold fetchByte; rw [memRead_fault h]; rfl

theorem fetchByte_plain {s : State} {v : Byte} (h : s.plainByte s.level s.regs.pc = some v) :
    fetchByte s = .ok (v, s.advancePc) := by
  obtain ⟨h1, h2, h3⟩ := read_of_plainByte h
  rw [fetchByte_ok h1, h2, h3]

/-- An unprefixed opcode (R131). -/
theorem fetchOpcode_plain {s : State} {b : Byte} (h : s.plainByte s.level s.regs.pc = some b)
    (hp : isPrefixByte b = false) :
    fetchOpcode s
      = .ok (s.withRegs { s.regs with pc := s.regs.pc + 1, ir := b, pir := 0 }) := by
  unfold fetchOpcode
  rw [fetchByte_plain h]; simp only [ok_bind, hp]; rfl

/-- A prefixed opcode (R131). -/
theorem fetchOpcode_plain_prefixed {s : State} {b c : Byte}
    (h : s.plainByte s.level s.regs.pc = some b) (h' : s.plainByte s.level (s.regs.pc + 1) = some c)
    (hp : isPrefixByte b = true) :
    fetchOpcode s
      = .ok (s.withRegs { s.regs with pc := s.regs.pc + 2, ir := c, pir := b }) := by
  unfold fetchOpcode
  rw [fetchByte_plain h]; simp only [ok_bind, hp, if_true]
  rw [fetchByte_plain (v := c) (by simpa [State.advancePc] using h')]
  simp [State.advancePc, RegisterBank.set8, RegisterBank.set16]
  congr 2; bv_omega

/-- Where the bytes stand depends on the memory alone. -/
theorem holdsBytes_congr {s t : State} {sc : SecurityLevel}
    (h : ∀ a, t.plainByte sc a = s.plainByte sc a) (a : Word) (bytes : List Byte) :
    t.holdsBytes sc a bytes ↔ s.holdsBytes sc a bytes := by
  induction bytes generalizing a with
  | nil => exact Iff.rfl
  | cons b bs ih => simp only [State.holdsBytes, h, ih]

/-- The operand bytes (R141). -/
theorem fetchOperands_plain {t : Template} {s : State} {bytes : List Byte} {i : Instr}
    (hf : t.fill bytes = .ok (i, [])) (hh : s.holdsBytes s.level s.regs.pc bytes) :
    fetchOperands t s
      = .ok (i, s.withRegs { s.regs with pc := s.regs.pc + BitVec.ofNat 16 bytes.length }) := by
  cases t with
  | op0 j =>
    simp only [Template.fill, Except.ok.injEq, Prod.mk.injEq] at hf
    obtain ⟨rfl, rfl⟩ := hf
    simp only [fetchOperands, List.length_nil, BitVec.add_zero]
    rfl
  | op1 f =>
    match bytes, hf, hh with
    | [x], hf, hh =>
      simp only [Template.fill, Except.ok.injEq, Prod.mk.injEq, and_true] at hf
      subst hf
      simp only [fetchOperands, fetchByte_plain hh.1, ok_bind]
      rfl
    | x :: y :: l, hf, hh => simp [Template.fill] at hf
  | op2 f =>
    match bytes, hf, hh with
    | [x, y], hf, hh =>
      simp only [Template.fill, Except.ok.injEq, Prod.mk.injEq, and_true] at hf
      subst hf
      have h2 : s.advancePc.plainByte s.advancePc.level s.advancePc.regs.pc = some y := hh.2.1
      simp only [fetchOperands, fetchByte_plain hh.1, fetchByte_plain h2, ok_bind]
      simp [State.advancePc, RegisterBank.set16, BitVec.add_assoc]
    | x :: y :: z :: l, hf, hh => simp [Template.fill] at hf

/-- The outer loop's turn with no move lined up is its answer to the signals (spec/60_exceptions.md R441). -/
theorem hostTurn_nil {s : State} (h : s.hostMoves = []) : hostTurn s = .ok (answerSignals s) := by
  unfold hostTurn
  rw [h]
  simp only [runHostMoves]
  congr 1
  have : (answerSignals s).hostMoves = [] := by
    unfold answerSignals; split
    · split <;> exact h
    · exact h
  generalize answerSignals s = t at this
  cases t; cases this; rfl

@[simp] theorem answerSignals_regs (s : State) : (answerSignals s).regs = s.regs := by
  unfold answerSignals; split
  · split <;> rfl
  · rfl

end Sys2Proof.Machine
end

