-- ==== Sys2Proof/Laws/Flags.lean ====
section
/-! SUPPORT. The flag operations: one bit written, the others kept, and F as a whole after the grouped
writes. -/

namespace Sys2Proof.Machine

/-- A bit number below eight is one of eight. -/
theorem lt_eight {k : Nat} (h : k < 8) :
    k = 0 ∨ k = 1 ∨ k = 2 ∨ k = 3 ∨ k = 4 ∨ k = 5 ∨ k = 6 ∨ k = 7 := by omega

theorem getLsbD_one_shiftLeft {k j : Nat} (hk : k < 8) :
    ((1 : Byte) <<< k).getLsbD j = decide (j = k) := by
  by_cases hj : j < 8
  · rcases lt_eight hk with h | h | h | h | h | h | h | h <;>
      rcases lt_eight hj with h' | h' | h' | h' | h' | h' | h' | h' <;> subst h <;> subst h' <;> rfl
  · rw [BitVec.getLsbD_of_ge _ _ (by omega)]
    simp; omega

/-- Writing one bit writes that bit. -/
theorem getLsbD_writeBit (x : Byte) {k : Nat} (hk : k < 8) (v : Bool) (j : Nat) :
    (writeBit x k v).getLsbD j = if j = k then v else x.getLsbD j := by
  unfold writeBit
  by_cases hj : j < 8
  · cases v <;> by_cases h : j = k <;>
      simp only [BitVec.getLsbD_or, BitVec.getLsbD_and, BitVec.getLsbD_not, getLsbD_one_shiftLeft hk, h, hk,
        hj, if_true, if_false, decide_true, decide_false, Bool.or_false, Bool.or_true, Bool.and_true,
        Bool.and_false, Bool.not_true, Bool.not_false, Bool.false_eq_true]
  · have h : j ≠ k := by omega
    rw [BitVec.getLsbD_of_ge _ _ (by omega), if_neg h, BitVec.getLsbD_of_ge _ _ (by omega)]

theorem Flag.bit_lt (f : Flag) : f.bit < 8 := by cases f <;> decide

/-- A flag write and a flag read (R31). -/
theorem flag_writeFlag (rb : RegisterBank) (f g : Flag) (v : Bool) :
    (rb.writeFlag f v).flag g = if g = f then v else rb.flag g := by
  unfold RegisterBank.writeFlag RegisterBank.flag
  rw [getLsbD_writeBit _ f.bit_lt]
  cases f <;> cases g <;> rfl

/-- The bits of `flagByte`. -/
theorem getLsbD_flagByte (old : Byte) (z n h cy : Bool) (j : Nat) :
    (flagByte old z n h cy).getLsbD j
      = if j = 7 then z else if j = 6 then n else if j = 5 then h else if j = 4 then cy
        else old.getLsbD j && decide (j < 4) := by
  by_cases hj : j < 8
  · rcases lt_eight hj with h' | h' | h' | h' | h' | h' | h' | h' <;> subst h' <;>
      cases z <;> cases n <;> cases h <;> cases cy <;> simp [flagByte]
  · rw [BitVec.getLsbD_of_ge _ _ (by omega), BitVec.getLsbD_of_ge old _ (by omega),
      if_neg (by omega), if_neg (by omega), if_neg (by omega), if_neg (by omega), Bool.false_and]

/-- F is its four flags and its low bits. -/
theorem flagByte_self (f : Byte) :
    flagByte f (f.getLsbD 7) (f.getLsbD 6) (f.getLsbD 5) (f.getLsbD 4) = f := by
  refine BitVec.eq_of_getLsbD_eq fun j hj => ?_
  rw [getLsbD_flagByte]
  rcases lt_eight hj with h | h | h | h | h | h | h | h <;> subst h <;> simp

theorem writeFlags_eq (rb : RegisterBank) (z n h cy : Bool) :
    rb.writeFlags z n h cy = { rb with f := flagByte rb.f z n h cy } := by
  have : (rb.writeFlags z n h cy).f = flagByte rb.f z n h cy := by
    refine BitVec.eq_of_getLsbD_eq fun j hj => ?_
    rw [getLsbD_flagByte]
    unfold RegisterBank.writeFlags RegisterBank.writeFlag Flag.bit
    simp only [getLsbD_writeBit _ (show 7 < 8 by decide), getLsbD_writeBit _ (show 6 < 8 by decide),
      getLsbD_writeBit _ (show 5 < 8 by decide), getLsbD_writeBit _ (show 4 < 8 by decide)]
    rcases lt_eight hj with h | h | h | h | h | h | h | h <;> subst h <;> simp
  rw [← this]; rfl

theorem writeZnh_eq (rb : RegisterBank) (z n h : Bool) :
    rb.writeZnh z n h = { rb with f := flagByte rb.f z n h (rb.flag .cy) } := by
  have : (rb.writeZnh z n h).f = flagByte rb.f z n h (rb.flag .cy) := by
    refine BitVec.eq_of_getLsbD_eq fun j hj => ?_
    rw [getLsbD_flagByte]
    unfold RegisterBank.writeZnh RegisterBank.writeFlag RegisterBank.flag Flag.bit
    simp only [getLsbD_writeBit _ (show 7 < 8 by decide), getLsbD_writeBit _ (show 6 < 8 by decide),
      getLsbD_writeBit _ (show 5 < 8 by decide)]
    rcases lt_eight hj with h | h | h | h | h | h | h | h <;> subst h <;> simp
  rw [← this]; rfl

theorem writeNhc_eq (rb : RegisterBank) (n h cy : Bool) :
    rb.writeNhc n h cy = { rb with f := flagByte rb.f (rb.flag .z) n h cy } := by
  have : (rb.writeNhc n h cy).f = flagByte rb.f (rb.flag .z) n h cy := by
    refine BitVec.eq_of_getLsbD_eq fun j hj => ?_
    rw [getLsbD_flagByte]
    unfold RegisterBank.writeNhc RegisterBank.writeFlag RegisterBank.flag Flag.bit
    simp only [getLsbD_writeBit _ (show 6 < 8 by decide), getLsbD_writeBit _ (show 5 < 8 by decide),
      getLsbD_writeBit _ (show 4 < 8 by decide)]
    rcases lt_eight hj with h | h | h | h | h | h | h | h <;> subst h <;> simp
  rw [← this]; rfl

/-- Everything the eight operations can do: F is rebuilt from the four flags, and A is the result, except
for CP (R260). -/
theorem applyAlu8_eq (op : AluOp) (v : Byte) (rb : RegisterBank) :
    applyAlu8 op v rb =
      { rb with
        a := if op = .cp then rb.a else (alu8 op rb.a v (rb.flag .cy)).res
        f := flagByte rb.f (alu8 op rb.a v (rb.flag .cy)).z (alu8 op rb.a v (rb.flag .cy)).n
          (alu8 op rb.a v (rb.flag .cy)).h (alu8 op rb.a v (rb.flag .cy)).cy } := by
  unfold applyAlu8
  simp only [writeFlags_eq]
  split <;> rfl

/-! ### Conditions (R350) -/

@[simp] theorem conditionHolds_unconditional (rb : RegisterBank) :
    conditionHolds rb unconditionalExtra = true := rfl

@[simp] theorem conditionHolds_code (rb : RegisterBank) (cc : Cond) :
    conditionHolds rb cc.code = condHolds cc rb.f := by
  cases cc <;>
    simp [conditionHolds, condHolds, Cond.code, unconditionalExtra, RegisterBank.flag, Flag.bit]

/-! ### Results as bit-vector arithmetic -/

theorem nibble_eq (v : Byte) : nibble v = (v &&& 0x0F).toNat := by revert v; decide

/-- A sum taken on integers (R260). -/
theorem ofNat_add (a v : Byte) (c : Nat) :
    BitVec.ofNat 8 (a.toNat + v.toNat + c) = a + v + BitVec.ofNat 8 c := by
  apply BitVec.eq_of_toNat_eq; simp

/-- A difference taken on integers (R260). -/
theorem ofInt_sub (a v : Byte) (c : Nat) :
    BitVec.ofInt 8 ((a.toNat : Int) - v.toNat - c) = a - v - BitVec.ofNat 8 c := by
  apply BitVec.eq_of_toNat_eq
  have ha := a.isLt
  have hv := v.isLt
  simp only [BitVec.toNat_ofInt, BitVec.toNat_sub, BitVec.toNat_ofNat]
  omega

theorem highAddress_eq (b : Byte) : highAddress b = (0xFF : Byte) ++ b := by revert b; decide

theorem zext_restartExtra (t : BitVec 3) : zext (restartExtra t) = BitVec.ofNat 16 (8 * t.toNat) := by
  revert t; decide

theorem bitMask_bitExtra (b : BitVec 3) : bitMask (bitExtra b) = (1 : Byte) <<< b.toNat := by
  revert b; decide

theorem bitExtra_toNat (b : BitVec 3) : (bitExtra b).toNat = b.toNat := by revert b; decide

/-! ### Shifts (R320) -/

theorem shift_rlc (v : Byte) (c : Bool) : shift .rlc v c = (v.rotateLeft 1, v.getLsbD 7) := by
  revert v c; decide

theorem shift_rrc (v : Byte) (c : Bool) : shift .rrc v c = (v.rotateRight 1, v.getLsbD 0) := by
  revert v c; decide

theorem shift_sra (v : Byte) (c : Bool) : shift .sra v c = (v.sshiftRight 1, v.getLsbD 0) := by
  revert v c; decide

theorem shift_swap (v : Byte) (c : Bool) : shift .swap v c = (v.rotateLeft 4, false) := by
  revert v c; decide

end Sys2Proof.Machine
end

