-- ==== Sys2Proof/Laws/Forms.lean ====
section
/-! SUPPORT. The shapes of cycle that several instructions share: the five operand forms of the ALU
operations (spec/43_alu8.md R260) and the read, change and write of one byte (spec/40_pipeline.md R165). -/

namespace Sys2Proof.Machine

/-- Every instruction is the run of what its Decode makes. -/
theorem exec_eq_run (i : Instr) (s : State) : exec i s = (decodedOf i).run s := by
  cases i <;> rfl

/-- Every instruction is a cycle of one handler and one DecodedInstruction. -/
theorem exec_eq_cycle (i : Instr) : ∃ h di, ∀ s, exec i s = cycle h di s :=
  ⟨(decodedOf i).handler, (decodedOf i).di, exec_eq_run i⟩

/-- The five operand forms of an ALU operation. -/
theorem operandForms_of_cycles {op : AluOp} {r : Reg8 → Instr} {hl : Instr} {n ix iy : Byte → Instr}
    {res : RegisterBank → Byte → RegisterBank} (hres : ∀ rb v, applyAlu8 op v rb = res rb v)
    {o : Opcode} (ho : (o == .ldu) = false) (hsig : ∀ g : Signals, g.derive o = g)
    (hr : ∀ x s, exec (r x) s = cycle (handleAlu8 op)
      { opcode := o, mode := .register, src := some (.r8 x), dst := some (.r8 .a) } s)
    (hhl : ∀ s, exec hl s = cycle (handleAlu8 op)
      { opcode := o, mode := .registerIndirectSource, src := some (.r16 .hl), dst := some (.r8 .a) } s)
    (hn : ∀ x s, exec (n x) s = cycle (handleAlu8 op)
      { opcode := o, mode := .immediate, dst := some (.r8 .a), op1 := x } s)
    (hix : ∀ d s, exec (ix d) s = cycle (handleAlu8 op)
      { opcode := o, mode := .registerIndexedSource, src := some (.r16 .ix), dst := some (.r8 .a),
        op1 := d } s)
    (hiy : ∀ d s, exec (iy d) s = cycle (handleAlu8 op)
      { opcode := o, mode := .registerIndexedSource, src := some (.r16 .iy), dst := some (.r8 .a),
        op1 := d } s) :
    OperandForms r hl n ix iy res := by
  refine ⟨fun x s => ?_, fun s => ⟨fun h => ?_, fun h => ?_⟩, fun x s => ?_,
    fun d s => ⟨fun h => ?_, fun h => ?_⟩, fun d s => ⟨fun h => ?_, fun h => ?_⟩⟩ <;>
    (try dsimp only at h) <;> (try rw [← sext] at h ⊢) <;>
    simp [*, cycle, runSteps, acquire, acquireOp1, acquireOp2, acquireOp3, handleAlu8, executeAlu8,
      executeStep, sourceValue, writeBack_skip, finish, State.withUmsor, memRead, stepSrc, raise,
      DecodedInstruction.requestsUserSource, State.done, sourceScope, memReadScope]

/-- The read, change and write of the byte at HL. -/
theorem updatesByte_of_cycle
    {f : RegisterBank → DecodedInstruction → BankResult (RegisterBank × DecodedInstruction)} {i : Instr}
    {o : Opcode} {x : Byte} {v : RegisterBank → Byte → Byte} {res : RegisterBank → Byte → RegisterBank}
    (ho : (o == .ldu) = false) (hsig : ∀ g : Signals, g.derive o = g)
    (hf : ∀ rb w,
      f rb { opcode := o, mode := .registerIndirectSourceAndDestination, src := some (.r16 .hl),
             dst := some (.r16 .hl), extra := x, op1 := w }
        = .ok (res rb w,
            { opcode := o, mode := .registerIndirectSourceAndDestination, src := some (.r16 .hl),
              dst := some (.r16 .hl), extra := x, op1 := w, res1 := v rb w }))
    (hk : ∀ rb w, (res rb w).get16 .hl = rb.get16 .hl)
    (hi : ∀ s, exec i s = cycle (.unconditional f)
      { opcode := o, mode := .registerIndirectSourceAndDestination, src := some (.r16 .hl),
        dst := some (.r16 .hl), extra := x } s) :
    UpdatesByte i (fun rb => rb.get16 .hl) v res := by
  simp only [BitVec.ofNat_eq_ofNat] at hf
  intro s
  rw [hi]
  refine ⟨fun h => ?_, fun h => ?_⟩ <;> dsimp only at h <;>
    simp [cycle, runSteps, acquire, acquireOp1, acquireOp2, acquireOp3, executeStep, hf, hk, writeBack,
      stepDst, finish, State.withUmsor, hsig, DecodedInstruction.requestsUserSource, ho, State.done,
      sourceScope, memReadScope, memWrite, h, stepSrc, raise]

end Sys2Proof.Machine
end

