-- ==== Sys2Proof/Laws/PerInstr.lean ====
section
/-! SUPPORT. The per-instruction family: an instruction term has an encoding exactly when it is well formed. -/

namespace Sys2Proof.Laws.Encodable

/-- The encoder and `Instr.wellFormed` agree on which terms have an encoding. -/
def Statement (i : Instr) : Prop := (encode i).isSome = i.wellFormed

theorem nop : Statement .nop := rfl
theorem ldDdNn (dd : Reg16) (nn : Word) : Statement (.ldDdNn dd nn) := by cases dd <;> rfl
theorem ldIndBcA : Statement .ldIndBcA := rfl
theorem ldIndDeA : Statement .ldIndDeA := rfl
theorem ldIndHlIncA : Statement .ldIndHlIncA := rfl
theorem ldIndHlDecA : Statement .ldIndHlDecA := rfl
theorem incSs (ss : Reg16) : Statement (.incSs ss) := by cases ss <;> rfl
theorem decSs (ss : Reg16) : Statement (.decSs ss) := by cases ss <;> rfl
theorem incR (r : Reg8) : Statement (.incR r) := by cases r <;> rfl
theorem incIndHl : Statement .incIndHl := rfl
theorem decR (r : Reg8) : Statement (.decR r) := by cases r <;> rfl
theorem decIndHl : Statement .decIndHl := rfl
theorem ldRN (r : Reg8) (n : Byte) : Statement (.ldRN r n) := by cases r <;> rfl
theorem ldIndHlN (n : Byte) : Statement (.ldIndHlN n) := rfl
theorem rlca : Statement .rlca := rfl
theorem rrca : Statement .rrca := rfl
theorem rla : Statement .rla := rfl
theorem rra : Statement .rra := rfl
theorem ldIndNnSp (nn : Word) : Statement (.ldIndNnSp nn) := rfl
theorem addHlSs (ss : Reg16) : Statement (.addHlSs ss) := by cases ss <;> rfl
theorem ldAIndBc : Statement .ldAIndBc := rfl
theorem ldAIndDe : Statement .ldAIndDe := rfl
theorem ldAIndHlInc : Statement .ldAIndHlInc := rfl
theorem ldAIndHlDec : Statement .ldAIndHlDec := rfl
theorem stop : Statement .stop := rfl
theorem jr (e : Byte) : Statement (.jr e) := rfl
theorem jrCc (cc : Cond) (e : Byte) : Statement (.jrCc cc e) := rfl
theorem daa : Statement .daa := rfl
theorem cpl : Statement .cpl := rfl
theorem scf : Statement .scf := rfl
theorem ccf : Statement .ccf := rfl
theorem ldRR (r : Reg8) (r' : Reg8) : Statement (.ldRR r r') := by cases r <;> cases r' <;> rfl
theorem ldRIndHl (r : Reg8) : Statement (.ldRIndHl r) := by cases r <;> rfl
theorem ldIndHlR (r : Reg8) : Statement (.ldIndHlR r) := by cases r <;> rfl
theorem halt : Statement .halt := rfl
theorem addAR (r : Reg8) : Statement (.addAR r) := by cases r <;> rfl
theorem addAIndHl : Statement .addAIndHl := rfl
theorem addAN (n : Byte) : Statement (.addAN n) := rfl
theorem adcAR (r : Reg8) : Statement (.adcAR r) := by cases r <;> rfl
theorem adcAIndHl : Statement .adcAIndHl := rfl
theorem adcAN (n : Byte) : Statement (.adcAN n) := rfl
theorem subR (r : Reg8) : Statement (.subR r) := by cases r <;> rfl
theorem subIndHl : Statement .subIndHl := rfl
theorem subN (n : Byte) : Statement (.subN n) := rfl
theorem sbcAR (r : Reg8) : Statement (.sbcAR r) := by cases r <;> rfl
theorem sbcAIndHl : Statement .sbcAIndHl := rfl
theorem sbcAN (n : Byte) : Statement (.sbcAN n) := rfl
theorem andR (r : Reg8) : Statement (.andR r) := by cases r <;> rfl
theorem andIndHl : Statement .andIndHl := rfl
theorem andN (n : Byte) : Statement (.andN n) := rfl
theorem xorR (r : Reg8) : Statement (.xorR r) := by cases r <;> rfl
theorem xorIndHl : Statement .xorIndHl := rfl
theorem xorN (n : Byte) : Statement (.xorN n) := rfl
theorem orR (r : Reg8) : Statement (.orR r) := by cases r <;> rfl
theorem orIndHl : Statement .orIndHl := rfl
theorem orN (n : Byte) : Statement (.orN n) := rfl
theorem cpR (r : Reg8) : Statement (.cpR r) := by cases r <;> rfl
theorem cpIndHl : Statement .cpIndHl := rfl
theorem cpN (n : Byte) : Statement (.cpN n) := rfl
theorem retCc (cc : Cond) : Statement (.retCc cc) := rfl
theorem popQq (qq : Reg16) : Statement (.popQq qq) := by cases qq <;> rfl
theorem jpCc (cc : Cond) (nn : Word) : Statement (.jpCc cc nn) := rfl
theorem jp (nn : Word) : Statement (.jp nn) := rfl
theorem callCc (cc : Cond) (nn : Word) : Statement (.callCc cc nn) := rfl
theorem pushQq (qq : Reg16) : Statement (.pushQq qq) := by cases qq <;> rfl
theorem rst (t : BitVec 3) : Statement (.rst t) := rfl
theorem ret : Statement .ret := rfl
theorem call (nn : Word) : Statement (.call nn) := rfl
theorem reti : Statement .reti := rfl
theorem ldhIndNA (n : Byte) : Statement (.ldhIndNA n) := rfl
theorem ldIndCA : Statement .ldIndCA := rfl
theorem addSpE (e : Byte) : Statement (.addSpE e) := rfl
theorem jpHl : Statement .jpHl := rfl
theorem ldIndNnA (nn : Word) : Statement (.ldIndNnA nn) := rfl
theorem ldhAIndN (n : Byte) : Statement (.ldhAIndN n) := rfl
theorem ldAIndC : Statement .ldAIndC := rfl
theorem di : Statement .di := rfl
theorem ldHlSpE (e : Byte) : Statement (.ldHlSpE e) := rfl
theorem ldSpHl : Statement .ldSpHl := rfl
theorem ldAIndNn (nn : Word) : Statement (.ldAIndNn nn) := rfl
theorem ei : Statement .ei := rfl
theorem rlcR (r : Reg8) : Statement (.rlcR r) := by cases r <;> rfl
theorem rlcIndHl : Statement .rlcIndHl := rfl
theorem rrcR (r : Reg8) : Statement (.rrcR r) := by cases r <;> rfl
theorem rrcIndHl : Statement .rrcIndHl := rfl
theorem rlR (r : Reg8) : Statement (.rlR r) := by cases r <;> rfl
theorem rlIndHl : Statement .rlIndHl := rfl
theorem rrR (r : Reg8) : Statement (.rrR r) := by cases r <;> rfl
theorem rrIndHl : Statement .rrIndHl := rfl
theorem slaR (r : Reg8) : Statement (.slaR r) := by cases r <;> rfl
theorem slaIndHl : Statement .slaIndHl := rfl
theorem sraR (r : Reg8) : Statement (.sraR r) := by cases r <;> rfl
theorem sraIndHl : Statement .sraIndHl := rfl
theorem swapR (r : Reg8) : Statement (.swapR r) := by cases r <;> rfl
theorem swapIndHl : Statement .swapIndHl := rfl
theorem srlR (r : Reg8) : Statement (.srlR r) := by cases r <;> rfl
theorem srlIndHl : Statement .srlIndHl := rfl
theorem bitBR (b : BitVec 3) (r : Reg8) : Statement (.bitBR b r) := by cases r <;> rfl
theorem bitBIndHl (b : BitVec 3) : Statement (.bitBIndHl b) := rfl
theorem resBR (b : BitVec 3) (r : Reg8) : Statement (.resBR b r) := by cases r <;> rfl
theorem resBIndHl (b : BitVec 3) : Statement (.resBIndHl b) := rfl
theorem setBR (b : BitVec 3) (r : Reg8) : Statement (.setBR b r) := by cases r <;> rfl
theorem setBIndHl (b : BitVec 3) : Statement (.setBIndHl b) := rfl
theorem ldIxNn (nn : Word) : Statement (.ldIxNn nn) := rfl
theorem ldRIndIx (r : Reg8) (d : Byte) : Statement (.ldRIndIx r d) := by cases r <;> rfl
theorem ldIndIxR (d : Byte) (r : Reg8) : Statement (.ldIndIxR d r) := by cases r <;> rfl
theorem addAIndIx (d : Byte) : Statement (.addAIndIx d) := rfl
theorem adcAIndIx (d : Byte) : Statement (.adcAIndIx d) := rfl
theorem subIndIx (d : Byte) : Statement (.subIndIx d) := rfl
theorem sbcAIndIx (d : Byte) : Statement (.sbcAIndIx d) := rfl
theorem andIndIx (d : Byte) : Statement (.andIndIx d) := rfl
theorem xorIndIx (d : Byte) : Statement (.xorIndIx d) := rfl
theorem orIndIx (d : Byte) : Statement (.orIndIx d) := rfl
theorem cpIndIx (d : Byte) : Statement (.cpIndIx d) := rfl
theorem incIx : Statement .incIx := rfl
theorem decIx : Statement .decIx := rfl
theorem addIxPp (pp : Reg16) : Statement (.addIxPp pp) := by cases pp <;> rfl
theorem pushIx : Statement .pushIx := rfl
theorem popIx : Statement .popIx := rfl
theorem ldSpIx : Statement .ldSpIx := rfl
theorem jpIx : Statement .jpIx := rfl
theorem ldIyNn (nn : Word) : Statement (.ldIyNn nn) := rfl
theorem ldRIndIy (r : Reg8) (d : Byte) : Statement (.ldRIndIy r d) := by cases r <;> rfl
theorem ldIndIyR (d : Byte) (r : Reg8) : Statement (.ldIndIyR d r) := by cases r <;> rfl
theorem addAIndIy (d : Byte) : Statement (.addAIndIy d) := rfl
theorem adcAIndIy (d : Byte) : Statement (.adcAIndIy d) := rfl
theorem subIndIy (d : Byte) : Statement (.subIndIy d) := rfl
theorem sbcAIndIy (d : Byte) : Statement (.sbcAIndIy d) := rfl
theorem andIndIy (d : Byte) : Statement (.andIndIy d) := rfl
theorem xorIndIy (d : Byte) : Statement (.xorIndIy d) := rfl
theorem orIndIy (d : Byte) : Statement (.orIndIy d) := rfl
theorem cpIndIy (d : Byte) : Statement (.cpIndIy d) := rfl
theorem incIy : Statement .incIy := rfl
theorem decIy : Statement .decIy := rfl
theorem addIyPp (pp : Reg16) : Statement (.addIyPp pp) := by cases pp <;> rfl
theorem pushIy : Statement .pushIy := rfl
theorem popIy : Statement .popIy := rfl
theorem ldSpIy : Statement .ldSpIy := rfl
theorem jpIy : Statement .jpIy := rfl
theorem lduRIndHl (r : Reg8) : Statement (.lduRIndHl r) := by cases r <;> rfl
theorem lduAIndBc : Statement .lduAIndBc := rfl
theorem lduAIndDe : Statement .lduAIndDe := rfl
theorem lduAIndHlInc : Statement .lduAIndHlInc := rfl
theorem lduAIndHlDec : Statement .lduAIndHlDec := rfl
theorem jpuNn (nn : Word) : Statement (.jpuNn nn) := rfl

end Sys2Proof.Laws.Encodable
end

