-- ==== Sys2Proof/Tests/Slice0.lean ====
section
/-! SUPPORT. Tests: the well-formedness checks, the decoder on written-out words, one step on small states
(expected results from spec/95_test_vectors.md, derived there from the rules), and for each statement with
hypotheses a witness that meets them. -/

namespace Sys2Proof.Tests

open Sys2Proof.Machine

/-! ### Helpers -/

/-- Registers all zero, PC = 0x0100: the common start of the vectors. -/
def r0 : RegisterBank := { RegisterBank.reset with pc := 0x0100 }

/-- The vectors' memory: three empty resources. -/
def stores : List Backing :=
  [{ size := 0x8000, bytes := [] }, { size := 0x2000, bytes := [] }, { size := 0x100, bytes := [] }]

/-- Three resources, from that place on, registered under one tag, the rest unmapped. -/
def area (tag : Privilege) (place : Nat) : List Resource := [
  { handle := place + 1, backing := place, first := 0x0000, last := 0x7FFF, tag := tag },
  { handle := place + 2, backing := place + 1, first := 0xC000, last := 0xDFFF, tag := tag },
  { handle := place + 3, backing := place + 2, first := 0xFF00, last := 0xFFFF, tag := tag } ]

/-- Bytes put at addresses of a scope. -/
def poke (sc : SecurityLevel) (cells : List (Word × Byte)) (s : State) : State :=
  cells.foldl (fun s c => s.placeByte sc c.1 c.2) s

/-- A machine at System over memory tagged Both: registers, the bytes at PC, other bytes. -/
def cpu (rb : RegisterBank) (bytes : List Byte) (cells : List (Word × Byte)) : State :=
  ((poke .system cells
    { State.reset with backings := stores, resources := area .both 0, nextHandle := 9 }).withRegs rb)
    |>.placeBytes .system rb.pc bytes

/-- A machine at System with two memories, System and User, over the same addresses. -/
def two (rb : RegisterBank) (bytes : List Byte) (cells userCells : List (Word × Byte)) : State :=
  ((poke .user userCells (poke .system cells
    { State.reset with
      backings := stores ++ stores
      resources := area .system 0 ++ area .user 3
      nextHandle := 9 })).withRegs rb)
    |>.placeBytes .system rb.pc bytes

/-- The step completes in a state with the property. -/
def ends (s : State) (p : State → Bool) : Bool :=
  match step s with
  | .next t => p t
  | .fault _ => false
  | .refused _ => false

/-- The step stops at an unmapped address, leaving a state with the property. -/
def stops (s : State) (a : Word) (p : State → Bool) : Bool :=
  match step s with
  | .next _ => false
  | .fault (.memoryUnmapped b t) => b == a && p t
  | .fault (.registerBankError _) => false
  | .fault (.memoryControllerError _) => false
  | .fault (.aluError _) => false
  | .refused _ => false

/-- The bytes decode to the instruction, with nothing left, and encode back. -/
def decodesTo (bytes : List Byte) (i : Instr) : Bool :=
  match decode bytes with
  | .ok (j, rest) => j == i && rest.isEmpty && encode i == some bytes
  | .error _ => false

/-- Every pair decodes so. -/
def decodesAll (l : List (List Byte × Instr)) : Bool := l.all fun p => decodesTo p.1 p.2

/-! ### Well-formedness: an ill-formed term for each check, and no encoding for it. -/

theorem test_wellFormed_register :
    (Instr.ldRN .f 1).wellFormed = false ∧ (Instr.ldRR .b .regR).wellFormed = false
      ∧ encode (.ldRN .f 1) = none := by decide

theorem test_wellFormed_pair :
    (Instr.incSs .af).wellFormed = false ∧ encode (.incSs .af) = none := by decide

theorem test_wellFormed_stackPair :
    (Instr.pushQq .sp).wellFormed = false ∧ encode (.pushQq .sp) = none := by decide

theorem test_wellFormed_ixPair :
    (Instr.addIxPp .hl).wellFormed = false ∧ encode (.addIxPp .hl) = none := by decide

theorem test_wellFormed_iyPair :
    (Instr.addIyPp .ix).wellFormed = false ∧ encode (.addIyPp .ix) = none := by decide

/-! ### Decoding. Bytes written out from the pages of R105 to R109 with the codes of R34 to R36, R114 and
R414; the encoder gives the same bytes. Every constructor stands once. -/

theorem test_decode_alu16 : decodesAll [
    ([0b00000000], .nop), ([0b00010011], .incSs .de), ([0b00101011], .decSs .hl),
    ([0b00111001], .addHlSs .sp), ([0b00100111], .daa), ([0b00101111], .cpl), ([0b00110111], .scf),
    ([0b00111111], .ccf), ([0b11101000, 0x85], .addSpE 0x85)] = true := by decide

theorem test_decode_load16 : decodesAll [
    ([0b00000001, 0x34, 0x12], .ldDdNn .bc 0x1234), ([0b00001000, 0x34, 0x12], .ldIndNnSp 0x1234),
    ([0b11000001], .popQq .bc), ([0b11110101], .pushQq .af), ([0b11111000, 0x85], .ldHlSpE 0x85),
    ([0b11111001], .ldSpHl)] = true := by decide

theorem test_decode_load8 : decodesAll [
    ([0b00000010], .ldIndBcA), ([0b00010010], .ldIndDeA), ([0b00100010], .ldIndHlIncA),
    ([0b00110010], .ldIndHlDecA), ([0b00010110, 0x85], .ldRN .d 0x85),
    ([0b00110110, 0x85], .ldIndHlN 0x85), ([0b00001010], .ldAIndBc), ([0b00011010], .ldAIndDe),
    ([0b00101010], .ldAIndHlInc), ([0b00111010], .ldAIndHlDec), ([0b01011100], .ldRR .e .h),
    ([0b01101110], .ldRIndHl .l), ([0b01110111], .ldIndHlR .a), ([0b11100000, 0x85], .ldhIndNA 0x85),
    ([0b11100010], .ldIndCA), ([0b11101010, 0x34, 0x12], .ldIndNnA 0x1234),
    ([0b11110000, 0x85], .ldhAIndN 0x85), ([0b11110010], .ldAIndC),
    ([0b11111010, 0x34, 0x12], .ldAIndNn 0x1234)] = true := by decide

theorem test_decode_alu8_1 : decodesAll [
    ([0b00000100], .incR .b), ([0b00110100], .incIndHl), ([0b00001101], .decR .c),
    ([0b00110101], .decIndHl), ([0b10000000], .addAR .b), ([0b10000110], .addAIndHl),
    ([0b11000110, 0x85], .addAN 0x85), ([0b10001001], .adcAR .c), ([0b10001110], .adcAIndHl),
    ([0b11001110, 0x85], .adcAN 0x85), ([0b10010010], .subR .d), ([0b10010110], .subIndHl),
    ([0b11010110, 0x85], .subN 0x85), ([0b10011011], .sbcAR .e), ([0b10011110], .sbcAIndHl),
    ([0b11011110, 0x85], .sbcAN 0x85), ([0b10100100], .andR .h), ([0b10100110], .andIndHl),
    ([0b11100110, 0x85], .andN 0x85), ([0b10101101], .xorR .l), ([0b10101110], .xorIndHl),
    ([0b11101110, 0x85], .xorN 0x85), ([0b10110111], .orR .a), ([0b10110110], .orIndHl)] = true := by decide

theorem test_decode_alu8_2 : decodesAll [
    ([0b11110110, 0x85], .orN 0x85), ([0b10111000], .cpR .b), ([0b10111110], .cpIndHl),
    ([0b11111110, 0x85], .cpN 0x85)] = true := by decide

theorem test_decode_rotate : decodesAll [
    ([0b00000111], .rlca), ([0b00001111], .rrca), ([0b00010111], .rla), ([0b00011111], .rra)] = true := by decide

theorem test_decode_system : decodesAll [
    ([0b00010000], .stop), ([0b01110110], .halt), ([0b11110011], .di), ([0b11111011], .ei)] = true := by decide

theorem test_decode_control : decodesAll [
    ([0b00011000, 0x85], .jr 0x85), ([0b00100000, 0x85], .jrCc .nz 0x85), ([0b11001000], .retCc .z),
    ([0b11010010, 0x34, 0x12], .jpCc .nc 0x1234), ([0b11000011, 0x34, 0x12], .jp 0x1234),
    ([0b11011100, 0x34, 0x12], .callCc .c 0x1234), ([0b11001111], .rst 1), ([0b11001001], .ret),
    ([0b11001101, 0x34, 0x12], .call 0x1234), ([0b11011001], .reti), ([0b11101001], .jpHl)] = true := by decide

theorem test_decode_cb : decodesAll [
    ([0xCB, 0b00000001], .rlcR .c), ([0xCB, 0b00000110], .rlcIndHl), ([0xCB, 0b00001010], .rrcR .d),
    ([0xCB, 0b00001110], .rrcIndHl), ([0xCB, 0b00010011], .rlR .e), ([0xCB, 0b00010110], .rlIndHl),
    ([0xCB, 0b00011100], .rrR .h), ([0xCB, 0b00011110], .rrIndHl), ([0xCB, 0b00100101], .slaR .l),
    ([0xCB, 0b00100110], .slaIndHl), ([0xCB, 0b00101111], .sraR .a), ([0xCB, 0b00101110], .sraIndHl),
    ([0xCB, 0b00110000], .swapR .b), ([0xCB, 0b00110110], .swapIndHl), ([0xCB, 0b00111001], .srlR .c),
    ([0xCB, 0b00111110], .srlIndHl), ([0xCB, 0b01111010], .bitBR 7 .d),
    ([0xCB, 0b01100110], .bitBIndHl 4), ([0xCB, 0b10010011], .resBR 2 .e),
    ([0xCB, 0b10101110], .resBIndHl 5), ([0xCB, 0b11011100], .setBR 3 .h),
    ([0xCB, 0b11110110], .setBIndHl 6)] = true := by decide

theorem test_decode_dd : decodesAll [
    ([0xDD, 0b00100001, 0x34, 0x12], .ldIxNn 0x1234), ([0xDD, 0b01101110, 0x85], .ldRIndIx .l 0x85),
    ([0xDD, 0b01110111, 0x85], .ldIndIxR 0x85 .a), ([0xDD, 0b10000110, 0x85], .addAIndIx 0x85),
    ([0xDD, 0b10001110, 0x85], .adcAIndIx 0x85), ([0xDD, 0b10010110, 0x85], .subIndIx 0x85),
    ([0xDD, 0b10011110, 0x85], .sbcAIndIx 0x85), ([0xDD, 0b10100110, 0x85], .andIndIx 0x85),
    ([0xDD, 0b10101110, 0x85], .xorIndIx 0x85), ([0xDD, 0b10110110, 0x85], .orIndIx 0x85),
    ([0xDD, 0b10111110, 0x85], .cpIndIx 0x85), ([0xDD, 0b00100011], .incIx),
    ([0xDD, 0b00101011], .decIx), ([0xDD, 0b00001001], .addIxPp .bc), ([0xDD, 0b11100101], .pushIx),
    ([0xDD, 0b11100001], .popIx), ([0xDD, 0b11111001], .ldSpIx), ([0xDD, 0b11101001], .jpIx)] = true := by decide

theorem test_decode_fd : decodesAll [
    ([0xFD, 0b00100001, 0x34, 0x12], .ldIyNn 0x1234), ([0xFD, 0b01000110, 0x85], .ldRIndIy .b 0x85),
    ([0xFD, 0b01110001, 0x85], .ldIndIyR 0x85 .c), ([0xFD, 0b10000110, 0x85], .addAIndIy 0x85),
    ([0xFD, 0b10001110, 0x85], .adcAIndIy 0x85), ([0xFD, 0b10010110, 0x85], .subIndIy 0x85),
    ([0xFD, 0b10011110, 0x85], .sbcAIndIy 0x85), ([0xFD, 0b10100110, 0x85], .andIndIy 0x85),
    ([0xFD, 0b10101110, 0x85], .xorIndIy 0x85), ([0xFD, 0b10110110, 0x85], .orIndIy 0x85),
    ([0xFD, 0b10111110, 0x85], .cpIndIy 0x85), ([0xFD, 0b00100011], .incIy),
    ([0xFD, 0b00101011], .decIy), ([0xFD, 0b00101001], .addIyPp .iy), ([0xFD, 0b11100101], .pushIy),
    ([0xFD, 0b11100001], .popIy), ([0xFD, 0b11111001], .ldSpIy), ([0xFD, 0b11101001], .jpIy)] = true := by decide

theorem test_decode_fc : decodesAll [
    ([0xFC, 0b01010110], .lduRIndHl .d), ([0xFC, 0b00001010], .lduAIndBc),
    ([0xFC, 0b00011010], .lduAIndDe), ([0xFC, 0b00101010], .lduAIndHlInc),
    ([0xFC, 0b00111010], .lduAIndHlDec), ([0xFC, 0b11000011, 0x34, 0x12], .jpuNn 0x1234)] = true := by decide

/-- The decoder refuses by name: an unmapped opcode (R110), a byte string that ends too soon. -/
theorem test_decode_refuses :
    (match decode [0xED] with | .error (.unmapped p i) => p == 0 && i == 0xED | _ => false) = true
      ∧ (match decode [0xDD, 0x00] with | .error (.unmapped p i) => p == 0xDD && i == 0 | _ => false)
        = true
      ∧ (match decode [0x3E] with | .error .truncated => true | _ => false) = true
      ∧ (match decode [0xCB] with | .error .truncated => true | _ => false) = true
      ∧ (match decode [] with | .error .truncated => true | _ => false) = true := by decide

/-- Table words (log 12): `LD r,r'` with r = B, r' = C; `SET 4,H`; `LD IX,nn` with nn = 0x1234. -/
theorem test_tableWord :
    decodeTableWord 8 0x41 = some (.ldRR .b .c) ∧ decodeTableWord 16 0xCBE4 = some (.setBR 4 .h)
      ∧ decodeTableWord 32 0x1234DD21 = some (.ldIxNn 0x1234)
      ∧ decodeTableWord 16 0xDD86 = some (.addAIndIx 0) := by decide

/-- `withFetchWord` makes the next step run the table's instruction: `INC r` with r = B from reset. -/
theorem test_withFetchWord :
    ends (State.reset.withFetchWord 8 0x04) (fun t => t.regs.b == 1 && t.regs.pc == 1) = true := by
  decide

/-! ### One step, from the vectors V<n> of spec/95_test_vectors.md (parts 2 and 3). -/

theorem test_v1 : ends (cpu { r0 with a := 0x5A, f := 0xF5 } [0x47] [])
    (fun t => t.regs.b == 0x5A && t.regs.pc == 0x0101 && t.regs.f == 0xF5 && t.sig == Signals.reset)
    = true := by decide

theorem test_v3 : ends (cpu { r0 with f := 0xA0 } [0x0E, 0x9C] [])
    (fun t => t.regs.c == 0x9C && t.regs.pc == 0x0102 && t.regs.f == 0xA0 && t.sig == Signals.reset)
    = true := by decide

theorem test_v5 : ends (cpu { r0 with h := 0xC1, l := 0x23 } [0x66] [(0xC123, 0xD0)])
    (fun t => t.regs.h == 0xD0 && t.regs.pc == 0x0101 && t.regs.f == 0x00 && t.sig == Signals.reset)
    = true := by decide

theorem test_v6 : ends (cpu { r0 with h := 0xC1, l := 0x23 } [0x75] [])
    (fun t => t.regs.pc == 0x0101 && t.regs.f == 0x00 && t.peek .system 0xC123 == some 0x23 &&
      t.sig == Signals.reset) = true := by
  decide

theorem test_v7 : ends (cpu { r0 with h := 0xDF, l := 0xFF } [0x36, 0xAB] [])
    (fun t => t.regs.pc == 0x0102 && t.regs.f == 0x00 && t.peek .system 0xDFFF == some 0xAB &&
      t.sig == Signals.reset) = true := by
  decide

theorem test_v9 : ends (cpu { r0 with d := 0xC0, e := 0x00 } [0x1A] [(0xC000, 0x22)])
    (fun t => t.regs.a == 0x22 && t.regs.pc == 0x0101 && t.regs.f == 0x00 && t.sig == Signals.reset)
    = true := by decide

theorem test_v10 : ends (cpu { r0 with a := 0x33, b := 0xC0, c := 0x10 } [0x02] [])
    (fun t => t.regs.pc == 0x0101 && t.regs.f == 0x00 && t.peek .system 0xC010 == some 0x33 &&
      t.sig == Signals.reset) = true := by
  decide

theorem test_v13 : ends (cpu { r0 with h := 0xFF, l := 0xFF } [0x2A] [(0xFFFF, 0x66)])
    (fun t => t.regs.a == 0x66 && t.regs.h == 0x00 && t.regs.l == 0x00 && t.regs.pc == 0x0101 &&
      t.regs.f == 0x00 && t.sig == Signals.reset) = true := by
  decide

theorem test_v14 : ends (cpu { r0 with h := 0xC1, l := 0x00 } [0x3A] [(0xC100, 0x77)])
    (fun t => t.regs.a == 0x77 && t.regs.h == 0xC0 && t.regs.l == 0xFF && t.regs.pc == 0x0101 &&
      t.regs.f == 0x00 && t.sig == Signals.reset) = true := by
  decide

theorem test_v15 : ends (cpu { r0 with a := 0x88, h := 0xC1, l := 0xFF } [0x22] [])
    (fun t => t.regs.h == 0xC2 && t.regs.l == 0x00 && t.regs.pc == 0x0101 && t.regs.f == 0x00 &&
      t.peek .system 0xC1FF == some 0x88 && t.sig == Signals.reset) = true := by
  decide

theorem test_v17 : ends (cpu { r0 with a := 0x9A, h := 0x00, l := 0x00 } [0x32] [])
    (fun t => t.regs.h == 0xFF && t.regs.l == 0xFF && t.regs.pc == 0x0101 && t.regs.f == 0x00 &&
      t.peek .system 0x0000 == some 0x9A && t.sig == Signals.reset) = true := by
  decide

theorem test_v18 : ends (cpu r0 [0xFA, 0x34, 0xC2] [(0xC234, 0xAA)])
    (fun t => t.regs.a == 0xAA && t.regs.pc == 0x0103 && t.regs.f == 0x00 && t.sig == Signals.reset)
    = true := by decide

theorem test_v19 : ends (cpu { r0 with a := 0xBB } [0xEA, 0x35, 0xC2] [])
    (fun t => t.regs.pc == 0x0103 && t.regs.f == 0x00 && t.peek .system 0xC235 == some 0xBB &&
      t.sig == Signals.reset) = true := by
  decide

theorem test_v20 : ends (cpu { r0 with c := 0x81 } [0xF2] [(0xFF81, 0xCC)])
    (fun t => t.regs.a == 0xCC && t.regs.pc == 0x0101 && t.regs.f == 0x00 && t.sig == Signals.reset)
    = true := by decide

theorem test_v21 : ends (cpu { r0 with a := 0xDD, c := 0x82 } [0xE2] [])
    (fun t => t.regs.pc == 0x0101 && t.regs.f == 0x00 && t.peek .system 0xFF82 == some 0xDD &&
      t.sig == Signals.reset) = true := by
  decide

theorem test_v22 : ends (cpu r0 [0xF0, 0x83] [(0xFF83, 0xEE)])
    (fun t => t.regs.a == 0xEE && t.regs.pc == 0x0102 && t.regs.f == 0x00 && t.sig == Signals.reset)
    = true := by decide

theorem test_v23 : ends (cpu { r0 with a := 0xFE } [0xE0, 0x84] [])
    (fun t => t.regs.pc == 0x0102 && t.regs.f == 0x00 && t.peek .system 0xFF84 == some 0xFE &&
      t.sig == Signals.reset) = true := by
  decide

theorem test_v24 : ends (cpu r0 [0x01, 0x34, 0x12] [])
    (fun t => t.regs.b == 0x12 && t.regs.c == 0x34 && t.regs.pc == 0x0103 && t.regs.f == 0x00 &&
      t.sig == Signals.reset) = true := by
  decide

theorem test_v26 : ends (cpu { r0 with h := 0xC8, l := 0x00, f := 0xF0 } [0xF9] [])
    (fun t => t.regs.sp == 0xC800 && t.regs.pc == 0x0101 && t.regs.f == 0xF0 && t.sig == Signals.reset)
    = true := by decide

theorem test_v28 : ends (cpu { r0 with sp := 0xABCD } [0x08, 0xFF, 0xFF] [])
    (fun t => t.regs.pc == 0x0103 && t.regs.f == 0x00 && t.peek .system 0xFFFF == some 0xCD &&
      t.peek .system 0x0000 == some 0xAB && t.sig == Signals.reset) = true := by
  decide

theorem test_v30 : ends (cpu { r0 with sp := 0xD000, f := 0xF0 } [0xF8, 0xFE] [])
    (fun t => t.regs.h == 0xCF && t.regs.l == 0xFE && t.regs.pc == 0x0102 && t.regs.f == 0x00 &&
      t.sig == Signals.reset) = true := by
  decide

theorem test_v31 : ends (cpu { r0 with sp := 0x0001, h := 0x55, l := 0x55 } [0xF8, 0xFF] [])
    (fun t => t.regs.h == 0x00 && t.regs.l == 0x00 && t.regs.pc == 0x0102 && t.regs.f == 0x30 &&
      t.sig == Signals.reset) = true := by
  decide

theorem test_v34 : ends (cpu { r0 with d := 0xBE, e := 0xEF, sp := 0x0000 } [0xD5] [])
    (fun t => t.regs.sp == 0xFFFE && t.regs.pc == 0x0101 && t.regs.f == 0x00 &&
      t.peek .system 0xFFFF == some 0xBE && t.peek .system 0xFFFE == some 0xEF && t.sig == Signals.reset)
    = true := by decide

theorem test_v36 : ends (cpu { r0 with sp := 0xCFFE } [0xF1] [(0xCFFE, 0xFF), (0xCFFF, 0x12)])
    (fun t => t.regs.a == 0x12 && t.regs.sp == 0xD000 && t.regs.pc == 0x0101 && t.regs.f == 0xFF &&
      t.sig == Signals.reset) = true := by
  decide

theorem test_v37 : ends (cpu { r0 with sp := 0xFFFF } [0xC1] [(0xFFFF, 0x34), (0x0000, 0x12)])
    (fun t => t.regs.b == 0x12 && t.regs.c == 0x34 && t.regs.sp == 0x0001 && t.regs.pc == 0x0101 &&
      t.regs.f == 0x00 && t.sig == Signals.reset) = true := by
  decide

theorem test_v38 : ends (cpu { r0 with a := 0x3A, b := 0xC6 } [0x80] [])
    (fun t => t.regs.a == 0x00 && t.regs.pc == 0x0101 && t.regs.f == 0xB0 && t.sig == Signals.reset)
    = true := by decide

theorem test_v41 : ends (cpu { r0 with a := 0x01, h := 0xC0, l := 0x00 } [0x86] [(0xC000, 0x7F)])
    (fun t => t.regs.a == 0x80 && t.regs.pc == 0x0101 && t.regs.f == 0x20 && t.sig == Signals.reset)
    = true := by decide

theorem test_v46 : ends (cpu { r0 with a := 0xFF, f := 0x10 } [0xCE, 0x00] [])
    (fun t => t.regs.a == 0x00 && t.regs.pc == 0x0102 && t.regs.f == 0xB0 && t.sig == Signals.reset)
    = true := by decide

theorem test_v47 : ends (cpu { r0 with a := 0x00, f := 0x10 } [0xCE, 0xFF] [])
    (fun t => t.regs.pc == 0x0102 && t.regs.f == 0xB0 && t.sig == Signals.reset) = true := by
  decide

theorem test_v50 : ends (cpu { r0 with a := 0x3E, h := 0xC0, l := 0x00 } [0x96] [(0xC000, 0x40)])
    (fun t => t.regs.a == 0xFE && t.regs.pc == 0x0101 && t.regs.f == 0x50 && t.sig == Signals.reset)
    = true := by decide

theorem test_v52 : ends (cpu { r0 with a := 0x3B, h := 0x2A, f := 0x10 } [0x9C] [])
    (fun t => t.regs.a == 0x10 && t.regs.pc == 0x0101 && t.regs.f == 0x40 && t.sig == Signals.reset)
    = true := by decide

theorem test_v55 : ends (cpu { r0 with a := 0x10, f := 0x10 } [0xDE, 0x0F] [])
    (fun t => t.regs.a == 0x00 && t.regs.pc == 0x0102 && t.regs.f == 0xE0 && t.sig == Signals.reset)
    = true := by decide

theorem test_v56 : ends (cpu { r0 with a := 0x00, f := 0x10 } [0xDE, 0xFF] [])
    (fun t => t.regs.pc == 0x0102 && t.regs.f == 0xF0 && t.sig == Signals.reset) = true := by
  decide

theorem test_v58 : ends (cpu { r0 with a := 0x5A, h := 0xC0, l := 0x00 } [0xA6] [(0xC000, 0x00)])
    (fun t => t.regs.a == 0x00 && t.regs.pc == 0x0101 && t.regs.f == 0xA0 && t.sig == Signals.reset)
    = true := by decide

theorem test_v60 : ends (cpu { r0 with a := 0xFF, f := 0x70 } [0xAF] [])
    (fun t => t.regs.a == 0x00 && t.regs.pc == 0x0101 && t.regs.f == 0x80 && t.sig == Signals.reset)
    = true := by decide

theorem test_v64 : ends (cpu { r0 with a := 0x5A, h := 0xC0, l := 0x00 } [0xB6] [(0xC000, 0x0F)])
    (fun t => t.regs.a == 0x5F && t.regs.pc == 0x0101 && t.regs.f == 0x00 && t.sig == Signals.reset)
    = true := by decide

theorem test_v67 : ends (cpu { r0 with a := 0x3C, h := 0xC0, l := 0x00 } [0xBE] [(0xC000, 0x40)])
    (fun t => t.regs.pc == 0x0101 && t.regs.f == 0x50 && t.sig == Signals.reset) = true := by
  decide

theorem test_v69 : ends (cpu { r0 with a := 0xFF, f := 0x10 } [0x3C] [])
    (fun t => t.regs.a == 0x00 && t.regs.pc == 0x0101 && t.regs.f == 0xB0 && t.sig == Signals.reset)
    = true := by decide

theorem test_v72 : ends (cpu { r0 with h := 0xC0, l := 0x00 } [0x34] [(0xC000, 0xFF)])
    (fun t => t.regs.pc == 0x0101 && t.regs.f == 0xA0 && t.peek .system 0xC000 == some 0x00 &&
      t.sig == Signals.reset) = true := by
  decide

theorem test_v74 : ends (cpu { r0 with c := 0x00 } [0x0D] [])
    (fun t => t.regs.c == 0xFF && t.regs.pc == 0x0101 && t.regs.f == 0x60 && t.sig == Signals.reset)
    = true := by decide

theorem test_v75 : ends (cpu { r0 with h := 0xC0, l := 0x00 } [0x35] [(0xC000, 0x10)])
    (fun t => t.regs.pc == 0x0101 && t.regs.f == 0x60 && t.peek .system 0xC000 == some 0x0F &&
      t.sig == Signals.reset) = true := by
  decide

theorem test_v77 : ends (cpu { r0 with h := 0x8A, l := 0x23 } [0x29] [])
    (fun t => t.regs.h == 0x14 && t.regs.l == 0x46 && t.regs.pc == 0x0101 && t.regs.f == 0x30 &&
      t.sig == Signals.reset) = true := by
  decide

theorem test_v78 : ends (cpu { r0 with h := 0x00, l := 0x01, sp := 0xFFFF, f := 0x80 } [0x39] [])
    (fun t => t.regs.l == 0x00 && t.regs.pc == 0x0101 && t.regs.f == 0xB0 && t.sig == Signals.reset)
    = true := by decide

theorem test_v79 : ends (cpu { r0 with b := 0xFF, c := 0xFF, f := 0xA5 } [0x03] [])
    (fun t => t.regs.b == 0x00 && t.regs.c == 0x00 && t.regs.pc == 0x0101 && t.regs.f == 0xA5 &&
      t.sig == Signals.reset) = true := by
  decide

theorem test_v81 : ends (cpu { r0 with d := 0x00, e := 0x00 } [0x1B] [])
    (fun t => t.regs.d == 0xFF && t.regs.e == 0xFF && t.regs.pc == 0x0101 && t.regs.f == 0x00 &&
      t.sig == Signals.reset) = true := by
  decide

theorem test_v83 : ends (cpu { r0 with sp := 0xFFF8, f := 0xC0 } [0xE8, 0x08] [])
    (fun t => t.regs.sp == 0x0000 && t.regs.pc == 0x0102 && t.regs.f == 0x30 && t.sig == Signals.reset)
    = true := by decide

theorem test_v85 : ends (cpu { r0 with sp := 0xD000 } [0xE8, 0x80] [])
    (fun t => t.regs.sp == 0xCF80 && t.regs.pc == 0x0102 && t.regs.f == 0x00 && t.sig == Signals.reset)
    = true := by decide

theorem test_v87 : ends (cpu { r0 with a := 0x9A, f := 0x00 } [0x27] [])
    (fun t => t.regs.a == 0x00 && t.regs.pc == 0x0101 && t.regs.f == 0x90 && t.sig == Signals.reset)
    = true := by decide

theorem test_v90 : ends (cpu { r0 with a := 0x4B, f := 0x60 } [0x27] [])
    (fun t => t.regs.a == 0x45 && t.regs.pc == 0x0101 && t.regs.f == 0x40 && t.sig == Signals.reset)
    = true := by decide

theorem test_v91 : ends (cpu { r0 with a := 0xB2, f := 0x50 } [0x27] [])
    (fun t => t.regs.a == 0x52 && t.regs.pc == 0x0101 && t.regs.f == 0x50 && t.sig == Signals.reset)
    = true := by decide

theorem test_v93 : ends (cpu { r0 with a := 0x66, f := 0x70 } [0x27] [])
    (fun t => t.regs.a == 0x00 && t.regs.pc == 0x0101 && t.regs.f == 0xD0 && t.sig == Signals.reset)
    = true := by decide

theorem test_v94 : ends (cpu { r0 with a := 0x35, f := 0x90 } [0x2F] [])
    (fun t => t.regs.a == 0xCA && t.regs.pc == 0x0101 && t.regs.f == 0xF0 && t.sig == Signals.reset)
    = true := by decide

theorem test_v95 : ends (cpu { r0 with f := 0xE0 } [0x37] [])
    (fun t => t.regs.pc == 0x0101 && t.regs.f == 0x90 && t.sig == Signals.reset) = true := by
  decide

theorem test_v96 : ends (cpu { r0 with f := 0xF0 } [0x3F] [])
    (fun t => t.regs.pc == 0x0101 && t.regs.f == 0x80 && t.sig == Signals.reset) = true := by
  decide

theorem test_v99 : ends (cpu { r0 with a := 0x85, f := 0xE0 } [0x07] [])
    (fun t => t.regs.a == 0x0B && t.regs.pc == 0x0101 && t.regs.f == 0x10 && t.sig == Signals.reset)
    = true := by decide

theorem test_v101 : ends (cpu { r0 with a := 0x3B } [0x0F] [])
    (fun t => t.regs.a == 0x9D && t.regs.pc == 0x0101 && t.regs.f == 0x10 && t.sig == Signals.reset)
    = true := by decide

theorem test_v102 : ends (cpu { r0 with a := 0x95, f := 0x10 } [0x17] [])
    (fun t => t.regs.a == 0x2B && t.regs.pc == 0x0101 && t.regs.f == 0x10 && t.sig == Signals.reset)
    = true := by decide

theorem test_v104 : ends (cpu { r0 with a := 0x81, f := 0x00 } [0x1F] [])
    (fun t => t.regs.a == 0x40 && t.regs.pc == 0x0101 && t.regs.f == 0x10 && t.sig == Signals.reset)
    = true := by decide

theorem test_v108 : ends (cpu { r0 with h := 0xC0, l := 0x00 } [0xCB, 0x06] [(0xC000, 0x80)])
    (fun t => t.regs.pc == 0x0102 && t.regs.f == 0x10 && t.peek .system 0xC000 == some 0x01 &&
      t.sig == Signals.reset) = true := by
  decide

theorem test_v110 : ends (cpu { r0 with h := 0xC0, l := 0x00, f := 0x10 } [0xCB, 0x0E] [(0xC000, 0x00)])
    (fun t => t.regs.pc == 0x0102 && t.regs.f == 0x80 && t.peek .system 0xC000 == some 0x00 &&
      t.sig == Signals.reset) = true := by
  decide

theorem test_v112 : ends (cpu { r0 with d := 0x11, f := 0x10 } [0xCB, 0x12] [])
    (fun t => t.regs.d == 0x23 && t.regs.pc == 0x0102 && t.regs.f == 0x00 && t.sig == Signals.reset)
    = true := by decide

theorem test_v115 : ends (cpu { r0 with e := 0x8A, f := 0x10 } [0xCB, 0x1B] [])
    (fun t => t.regs.e == 0xC5 && t.regs.pc == 0x0102 && t.regs.f == 0x00 && t.sig == Signals.reset)
    = true := by decide

theorem test_v117 : ends (cpu { r0 with d := 0x80 } [0xCB, 0x22] [])
    (fun t => t.regs.d == 0x00 && t.regs.pc == 0x0102 && t.regs.f == 0x90 && t.sig == Signals.reset)
    = true := by decide

theorem test_v120 : ends (cpu { r0 with a := 0x8A } [0xCB, 0x2F] [])
    (fun t => t.regs.a == 0xC5 && t.regs.pc == 0x0102 && t.regs.f == 0x00 && t.sig == Signals.reset)
    = true := by decide

theorem test_v123 : ends (cpu { r0 with a := 0xF1, f := 0x10 } [0xCB, 0x37] [])
    (fun t => t.regs.a == 0x1F && t.regs.pc == 0x0102 && t.regs.f == 0x00 && t.sig == Signals.reset)
    = true := by decide

theorem test_v127 : ends (cpu { r0 with c := 0xFF } [0xCB, 0x39] [])
    (fun t => t.regs.c == 0x7F && t.regs.pc == 0x0102 && t.regs.f == 0x10 && t.sig == Signals.reset)
    = true := by decide

theorem test_v130 : ends (cpu { r0 with l := 0xEF } [0xCB, 0x65] [])
    (fun t => t.regs.pc == 0x0102 && t.regs.f == 0xA0 && t.sig == Signals.reset) = true := by
  decide

theorem test_v132 : ends (cpu { r0 with h := 0xC0, l := 0x00 } [0xCB, 0x7E] [(0xC000, 0x80)])
    (fun t => t.regs.pc == 0x0102 && t.regs.f == 0x20 && t.sig == Signals.reset) = true := by
  decide

theorem test_v133 : ends (cpu { r0 with a := 0xFF, f := 0xF0 } [0xCB, 0xBF] [])
    (fun t => t.regs.a == 0x7F && t.regs.pc == 0x0102 && t.regs.f == 0xF0 && t.sig == Signals.reset)
    = true := by decide

theorem test_v138 : ends (cpu { r0 with h := 0xC0, l := 0x00 } [0xCB, 0xC6] [(0xC000, 0x00)])
    (fun t => t.regs.pc == 0x0102 && t.regs.f == 0x00 && t.peek .system 0xC000 == some 0x01 &&
      t.sig == Signals.reset) = true := by
  decide

theorem test_v141 : ends (cpu { r0 with f := 0x80 } [0xC2, 0x34, 0x12] [])
    (fun t => t.regs.pc == 0x0103 && t.regs.f == 0x80 && t.sig == { Signals.reset with aborted := true })
    = true := by decide

theorem test_v144 : ends (cpu { r0 with f := 0x10 } [0xDA, 0x34, 0x12] [])
    (fun t => t.regs.pc == 0x1234 && t.regs.f == 0x10 && t.sig == Signals.reset) = true := by
  decide

theorem test_v145 : ends (cpu { r0 with h := 0xC0, l := 0x00 } [0xE9] [(0xC000, 0x99)])
    (fun t => t.regs.pc == 0xC000 && t.regs.f == 0x00 && t.sig == Signals.reset) = true := by
  decide

theorem test_v148 : ends (cpu r0 [0x18, 0x80] [])
    (fun t => t.regs.pc == 0x0082 && t.regs.f == 0x00 && t.sig == Signals.reset) = true := by
  decide

theorem test_v149 : ends (cpu { r0 with f := 0x80 } [0x20, 0x05] [])
    (fun t => t.regs.pc == 0x0102 && t.regs.f == 0x80 && t.sig == { Signals.reset with aborted := true })
    = true := by decide

theorem test_v151 : ends (cpu { r0 with f := 0x00 } [0x30, 0xFD] [])
    (fun t => t.regs.pc == 0x00FF && t.regs.f == 0x00 && t.sig == Signals.reset) = true := by
  decide

theorem test_v155 : ends (cpu { r0 with sp := 0xD000, f := 0x10 } [0xDC, 0x34, 0x12] [])
    (fun t => t.regs.sp == 0xCFFE && t.regs.pc == 0x1234 && t.regs.f == 0x10 &&
      t.peek .system 0xCFFF == some 0x01 && t.peek .system 0xCFFE == some 0x03 && t.sig == Signals.reset)
    = true := by decide

theorem test_v154 : ends (cpu { r0 with sp := 0xD000, f := 0x80 } [0xC4, 0x34, 0x12] [])
    (fun t => t.regs.pc == 0x0103 && t.regs.f == 0x80 && t.sig == { Signals.reset with aborted := true })
    = true := by decide

theorem test_v157 :
    ends (cpu { r0 with sp := 0xCFFE, f := 0x80 } [0xC8] [(0xCFFE, 0x03), (0xCFFF, 0x02)])
    (fun t => t.regs.sp == 0xD000 && t.regs.pc == 0x0203 && t.regs.f == 0x80 && t.sig == Signals.reset)
    = true := by decide

theorem test_v158 :
    ends (cpu { r0 with sp := 0xCFFE, f := 0x00 } [0xC8] [(0xCFFE, 0x03), (0xCFFF, 0x02)])
    (fun t => t.regs.pc == 0x0101 && t.regs.f == 0x00 && t.sig == { Signals.reset with aborted := true })
    = true := by decide

theorem test_v160 : ends (cpu { r0 with sp := 0xCFFE } [0xD9] [(0xCFFE, 0x50), (0xCFFF, 0x01)])
    (fun t => t.regs.sp == 0xD000 && t.regs.pc == 0x0150 && t.regs.f == 0x00 &&
      t.sig == { Signals.reset with cis := true }) = true := by
  decide

theorem test_v163 : ends (cpu { r0 with sp := 0xD000 } [0xFF] [])
    (fun t => t.regs.sp == 0xCFFE && t.regs.pc == 0x0038 && t.regs.f == 0x00 &&
      t.peek .system 0xCFFF == some 0x01 && t.peek .system 0xCFFE == some 0x01 && t.sig == Signals.reset)
    = true := by decide

theorem test_v164 : ends (cpu { r0 with f := 0xF0 } [0x76] [])
    (fun t => t.regs.pc == 0x0101 && t.regs.f == 0xF0 && t.sig == { Signals.reset with halt := true })
    = true := by decide

theorem test_v165 : ends (cpu r0 [0x10, 0x00] [])
    (fun t => t.regs.pc == 0x0101 && t.regs.f == 0x00 && t.sig == { Signals.reset with stop := true })
    = true := by decide

theorem test_v166 : ends (cpu r0 [0xFB] [])
    (fun t => t.regs.pc == 0x0101 && t.regs.f == 0x00 && t.sig == { Signals.reset with ime := true })
    = true := by decide

theorem test_v183 : ends (cpu { r0 with ix := 0xFFF0 } [0xDD, 0x7E, 0x7F] [(0x006F, 0x45)])
    (fun t => t.regs.a == 0x45 && t.regs.pc == 0x0103 && t.regs.f == 0x00 && t.sig == Signals.reset)
    = true := by decide

theorem test_v184 : ends (cpu { r0 with ix := 0xC180, c := 0x46 } [0xDD, 0x71, 0x80] [])
    (fun t => t.regs.pc == 0x0103 && t.regs.f == 0x00 && t.peek .system 0xC100 == some 0x46 &&
      t.sig == Signals.reset) = true := by
  decide

theorem test_v187 :
    ends (cpu { r0 with a := 0x0F, f := 0x10, iy := 0xC100 } [0xFD, 0x8E, 0x01] [(0xC101, 0x00)])
    (fun t => t.regs.a == 0x10 && t.regs.pc == 0x0103 && t.regs.f == 0x20 && t.sig == Signals.reset)
    = true := by decide

theorem test_v189 :
    ends (cpu { r0 with a := 0x00, f := 0x10, ix := 0xC100 } [0xDD, 0x9E, 0x01] [(0xC101, 0x00)])
    (fun t => t.regs.a == 0xFF && t.regs.pc == 0x0103 && t.regs.f == 0x70 && t.sig == Signals.reset)
    = true := by decide

theorem test_v190 : ends (cpu { r0 with a := 0x5A, iy := 0xC100 } [0xFD, 0xA6, 0x01] [(0xC101, 0x0F)])
    (fun t => t.regs.a == 0x0A && t.regs.pc == 0x0103 && t.regs.f == 0x20 && t.sig == Signals.reset)
    = true := by decide

theorem test_v197 : ends (cpu { r0 with ix := 0x8A23, h := 0x11, l := 0x11 } [0xDD, 0x29] [])
    (fun t => t.regs.ix == 0x1446 && t.regs.pc == 0x0102 && t.regs.f == 0x30 && t.sig == Signals.reset)
    = true := by decide

theorem test_v198 : ends (cpu { r0 with iy := 0x0001, sp := 0xFFFF } [0xFD, 0x39] [])
    (fun t => t.regs.iy == 0x0000 && t.regs.pc == 0x0102 && t.regs.f == 0x30 && t.sig == Signals.reset)
    = true := by decide

theorem test_v199 : ends (cpu { r0 with ix := 0xBEEF, sp := 0xD000 } [0xDD, 0xE5] [])
    (fun t => t.regs.sp == 0xCFFE && t.regs.pc == 0x0102 && t.regs.f == 0x00 &&
      t.peek .system 0xCFFF == some 0xBE && t.peek .system 0xCFFE == some 0xEF && t.sig == Signals.reset)
    = true := by decide

theorem test_v200 : ends (cpu { r0 with sp := 0xCFFE } [0xFD, 0xE1] [(0xCFFE, 0x34), (0xCFFF, 0x12)])
    (fun t => t.regs.sp == 0xD000 && t.regs.iy == 0x1234 && t.regs.pc == 0x0102 && t.regs.f == 0x00 &&
      t.sig == Signals.reset) = true := by
  decide

theorem test_v201 : ends (cpu { r0 with ix := 0xC800 } [0xDD, 0xF9] [])
    (fun t => t.regs.sp == 0xC800 && t.regs.pc == 0x0102 && t.regs.f == 0x00 && t.sig == Signals.reset)
    = true := by decide

theorem test_v203 : ends (cpu { r0 with iy := 0x8765 } [0xFD, 0xE9] [])
    (fun t => t.regs.pc == 0x8765 && t.regs.f == 0x00 && t.sig == Signals.reset) = true := by
  decide

theorem test_v204 : ends (cpu r0 [0xDD, 0x00] [])
    (fun t => t.regs.pc == 0x0102 && t.regs.ir == 0x00 && t.regs.pir == 0xDD && t.regs.f == 0x00 &&
      t.sig == Signals.reset) = true := by
  decide

theorem test_v206 : ends (cpu { r0 with a := 0x5A } [0xFD, 0x47, 0x99] [])
    (fun t => t.regs.pc == 0x0102 && t.regs.ir == 0x47 && t.regs.pir == 0xFD && t.regs.f == 0x00 &&
      t.sig == Signals.reset) = true := by
  decide

theorem test_v209 : ends (cpu { r0 with a := 0x11, f := 0xF0 } [0xD3, 0x12] [])
    (fun t => t.regs.pc == 0x0101 && t.regs.ir == 0xD3 && t.regs.pir == 0x00 && t.regs.f == 0xF0 &&
      t.sig == Signals.reset) = true := by
  decide

theorem test_v211 : ends (cpu r0 [0xDD, 0xDD, 0x21] [])
    (fun t => t.regs.pc == 0x0102 && t.regs.ir == 0xDD && t.regs.pir == 0xDD && t.regs.f == 0x00 &&
      t.sig == Signals.reset) = true := by
  decide

theorem test_v212 : ends (cpu { r0 with e := 0x00 } [0xCB, 0xCB] [])
    (fun t => t.regs.e == 0x02 && t.regs.pc == 0x0102 && t.regs.ir == 0xCB && t.regs.pir == 0xCB &&
      t.regs.f == 0x00 && t.sig == Signals.reset) = true := by
  decide

theorem test_v215 : ends (cpu { r0 with pc := 0xFFFF } [0x00] [])
    (fun t => t.regs.pc == 0x0000 && t.regs.f == 0x00 && t.sig == Signals.reset) = true := by
  decide

theorem test_v216 : ends (cpu { r0 with pc := 0xFFFF } [0x3E] [(0x0000, 0x5A)])
    (fun t => t.regs.a == 0x5A && t.regs.pc == 0x0001 && t.regs.f == 0x00 && t.sig == Signals.reset)
    = true := by decide

theorem test_v218 : stops (cpu { r0 with pc := 0x7FFF } [0xCB] []) 0x8000
    (fun t => t.regs.pc == 0x8000 && t.regs.ir == 0x00 && t.regs.pir == 0xCB && t.regs.f == 0x00)
    = true := by decide

theorem test_v219 : stops (cpu { r0 with pc := 0x7FFF } [0x3E] []) 0x8000
    (fun t => t.regs.pc == 0x8000 && t.regs.ir == 0x3E && t.regs.pir == 0x00 && t.regs.f == 0x00)
    = true := by decide

theorem test_v222 : stops (cpu { r0 with h := 0x90, l := 0x00 } [0x2A] []) 0x9000
    (fun t => t.regs.pc == 0x0101 && t.regs.f == 0x00) = true := by
  decide

theorem test_v223 : stops (cpu { r0 with h := 0x90, l := 0x00 } [0x22] []) 0x9000
    (fun t => t.regs.pc == 0x0101 && t.regs.f == 0x00) = true := by
  decide

theorem test_v225 :
    stops (cpu { r0 with sp := 0xDFFF, b := 0x11, c := 0x11 } [0xC1] [(0xDFFF, 0x34)]) 0xE000
    (fun t => t.regs.sp == 0xE000 && t.regs.pc == 0x0101 && t.regs.f == 0x00) = true := by
  decide

theorem test_v227 : stops (cpu { r0 with sp := 0xC001, b := 0x12, c := 0x34 } [0xC5] []) 0xBFFF
    (fun t => t.regs.pc == 0x0101 && t.regs.f == 0x00 && t.peek .system 0xC000 == some 0x12)
    = true := by decide

theorem test_v228 : stops (cpu { r0 with sp := 0x9000 } [0xCD, 0x34, 0x12] []) 0x8FFF
    (fun t => t.regs.pc == 0x1234 && t.regs.f == 0x00) = true := by
  decide

theorem test_v229 : stops (cpu { r0 with sp := 0xABCD } [0x08, 0xFF, 0xDF] []) 0xE000
    (fun t => t.regs.pc == 0x0103 && t.regs.f == 0x00 && t.peek .system 0xDFFF == some 0xCD)
    = true := by decide

theorem test_v169 :
    ends (two { r0 with h := 0xC0, l := 0x00 } [0xFC, 0x46] [(0xC000, 0x11)] [(0xC000, 0x22)])
    (fun t => t.regs.b == 0x22 && t.regs.pc == 0x0102 && t.regs.f == 0x00 &&
      t.sig == { Signals.reset with umsor := true }) = true := by
  decide

theorem test_v173 :
    ends (two { r0 with h := 0xC0, l := 0xFF } [0xFC, 0x2A] [(0xC0FF, 0x11)] [(0xC0FF, 0x55)])
    (fun t => t.regs.a == 0x55 && t.regs.h == 0xC1 && t.regs.l == 0x00 && t.regs.pc == 0x0102 &&
      t.regs.f == 0x00 && t.sig == { Signals.reset with umsor := true }) = true := by
  decide

theorem test_v175 : ends (two r0 [0xFC, 0xC3, 0x00, 0x02] [] [])
    (fun t => t.regs.pc == 0x0200 && t.regs.f == 0x00 && t.sig == { Signals.reset with umr := true })
    = true := by decide

/-- `DI` from a state whose `sig.ime` is true (R383). -/
theorem test_di :
    ends ((cpu r0 [0xF3] []).withSig { Signals.reset with ime := true })
      (fun t => t.sig == Signals.reset && t.regs.pc == 0x0101) = true := by decide

/-- `LDU A,(HL)` where User maps nothing (V230; `sig.umsor` is true by R47, R133). -/
theorem test_ldu_unmapped :
    stops (cpu { r0 with h := 0x90 } [0xFC, 0x7E] []) 0x9000
      (fun t => t.regs.pc == 0x0102 && t.regs.a == 0 && t.sig.umsor) = true := by decide

/-- An LCD control write calls `EnableVideo()` once on a rising edge (R92). -/
theorem test_lcd_rising :
    writeLcdControl 0x00 0 0 0x91 = .lcdControl 0x91 1 0
      ∧ writeLcdControl 0x91 1 0 0x11 = .lcdControl 0x11 1 1
      ∧ writeLcdControl 0x91 1 0 0x80 = .lcdControl 0x80 1 0 := by decide

/-- Memory keeps its canonical form: writing what an unlisted byte reads as removes the entry. -/
theorem test_memory_canonical :
    Memory.write (Memory.write (Memory.write [] 5 1) 3 2) 5 0 = [(3, 2)]
      ∧ Memory.write [(3, 2)] 1 7 = [(1, 7), (3, 2)] := by decide

/-! ### Witnesses: for each statement with hypotheses, concrete values that meet them all. -/

/-- System and User memory over one range, a shared range with two mapped registers over it, a mirror of the
shared resource for System, one User mapped register over nothing. -/
def board : State :=
  { State.reset with
    backings := [{ size := 0x8000, bytes := [] }, { size := 0x8000, bytes := [] },
      { size := 0x1000, bytes := [] }]
    resources := [
      { handle := 1, backing := 0, first := 0x0000, last := 0x7FFF, tag := .system },
      { handle := 2, backing := 1, first := 0x0000, last := 0x7FFF, tag := .user },
      { handle := 3, backing := 2, first := 0xC000, last := 0xCFFF, tag := .both },
      { handle := 4, backing := 2, first := 0xE000, last := 0xEFFF, tag := .system } ]
    nextHandle := 5
    mapped := [
      { device := 0, address := 0xC010, tag := .both },
      { device := 1, address := 0xC011, tag := .system },
      { device := 2, address := 0x8000, tag := .user } ]
    devices := [.latch 0x55, .lcdControl 0x00 0 0, .unknown] }

/-- The System resource of `board`. -/
def ramSystem : Resource :=
  { handle := 1, backing := 0, first := 0x0000, last := 0x7FFF, tag := .system }

/-- The User resource of `board`. -/
def ramUser : Resource :=
  { handle := 2, backing := 1, first := 0x0000, last := 0x7FFF, tag := .user }

/-- The shared resource of `board`. -/
def ramShared : Resource :=
  { handle := 3, backing := 2, first := 0xC000, last := 0xCFFF, tag := .both }

/-- A tag seen from a scope, as the statements write it. -/
def seen (sc : SecurityLevel) (p : Privilege) : Prop :=
  p = .both ∨ (p = .system ∧ sc = .system) ∨ (p = .user ∧ sc = .user)

theorem witness_RegisterCellsAreIndependent :
    Register.r8 .a ∉ cellsOf (.r16 .hl) ∧ Register.r8 .f ∉ cellsOf (.r16 .pc)
      ∧ Register.r8 .l ∉ cellsOf (.r16 .af) := by decide

/-- A mapped register seen (at both levels, at System only), one hidden with memory under it, the ends of a
range, the addresses next to it. -/
theorem witness_ReadResolution :
    board.wf
      ∧ (∃ g ∈ board.mapped, g.address = 0xC010 ∧ (g.tag = .both))
      ∧ (∃ g ∈ board.mapped, g.address = 0xC011 ∧ (g.tag = .system))
      ∧ (∀ g ∈ board.mapped, g.address = 0xC011 → g.tag ≠ .both ∧ g.tag ≠ .user)
      ∧ (∀ g ∈ board.mapped, g.address ≠ 0xC000 ∧ g.address ≠ 0xCFFF ∧ g.address ≠ 0xBFFF
          ∧ g.address ≠ 0xD000)
      ∧ ramShared ∈ board.resources
      ∧ (∀ r ∈ board.resources, ¬(r.first.toNat ≤ 0xBFFF ∧ 0xBFFF ≤ r.last.toNat)
          ∧ ¬(r.first.toNat ≤ 0xD000 ∧ 0xD000 ≤ r.last.toNat)) := by decide

theorem witness_ReadResolution_userOnly :
    (∀ g ∈ board.mapped, g.address = (0x7FFF : Word) → ¬seen .user g.tag)
      ∧ ramUser ∈ board.resources ∧ seen .user ramUser.tag
      ∧ ramUser.first.toNat ≤ (0x7FFF : Word).toNat ∧ (0x7FFF : Word).toNat ≤ ramUser.last.toNat := by
  unfold seen; decide

theorem witness_WriteResolution :
    (board.withLevel .user).wf
      ∧ (∀ g ∈ (board.withLevel .user).mapped, g.address = (0xC011 : Word) → ¬seen .user g.tag)
      ∧ ramShared ∈ (board.withLevel .user).resources ∧ seen .user ramShared.tag
      ∧ (∃ g ∈ (board.withLevel .user).mapped, g.address = 0x8000 ∧ seen .user g.tag)
      ∧ (∀ g ∈ (board.withLevel .user).mapped, g.address = (0x8001 : Word) → ¬seen .user g.tag)
      ∧ (∀ r ∈ (board.withLevel .user).resources, r.first.toNat ≤ (0x8001 : Word).toNat →
          (0x8001 : Word).toNat ≤ r.last.toNat → ¬seen .user r.tag) := by
  unfold seen; decide

/-- A byte seen in both scopes and again in the mirror, and one that only System sees. -/
theorem witness_ByteWriteReplacesOneByte :
    board.wf ∧ board.route .system 0xCFFF = .resource ramShared
      ∧ board.route .user 0xCFFF = .resource ramShared
      ∧ board.cellAt .system 0xEFFF = some (ramShared.backing, 0xFFF)
      ∧ board.cellAt .system 0xEFFE ≠ some (ramShared.backing, 0xFFF)
      ∧ board.route .system 0x0000 = .resource ramSystem
      ∧ board.route .user 0x0000 ≠ .resource ramSystem := by decide

theorem witness_BothIsOneObject :
    board.wf
      ∧ (board.route .system 0xC000 = .resource ramShared ∧ ramShared.tag = .both
        ∧ board.route .user 0xC000 = .resource ramShared ∧ ∃ t, memWrite 0xC000 7 board = .ok t)
      ∧ (({ device := 0, address := 0xC010, tag := .both } : MappedRegister) ∈ board.mapped
        ∧ board.devices[0]? = some (.latch 0x55) ∧ ∃ t, memWrite 0xC010 7 board = .ok t)
      ∧ (board.route .system 0x7FFF = .resource ramSystem ∧ board.route .user 0x7FFF = .resource ramUser
        ∧ ramSystem.tag = .system ∧ ramUser.tag = .user ∧ SecurityLevel.user ≠ board.level
        ∧ ∃ t, memWrite 0x7FFF 7 board = .ok t) :=
  ⟨by decide, ⟨by decide, rfl, by decide, _, rfl⟩, ⟨by decide, rfl, _, rfl⟩,
    by decide, by decide, rfl, rfl, by decide, _, rfl⟩

/-- A free range of the right size and one whose last byte meets a registration; a resource brought before and a
place that has none; one resource over one address under both levels; a registration to take away and a handle under
the wrong tag; a free address and one taken; an address to free and one not taken. -/
theorem witness_RegistrationCalls :
    board.wf
      ∧ (board.backings[1]?).map (fun m => m.size) = some 0x8000
      ∧ (board.backings[3]?).map (fun m => m.size) = none
      ∧ hostMove (.registerResource (.known 0) 0x0000 0x7FFF .user)
          { board with resources := [ramSystem] } = .fault (.memoryControllerError
            { board with resources := [ramSystem] })
      ∧ 2 < board.devices.length ∧ ¬3 < board.devices.length
      ∧ (∀ r ∈ board.resources, rangesMeet r.first r.last 0x8000 0xBFFF = false)
      ∧ (0xBFFF : Word).toNat - (0x8000 : Word).toNat + 1 = 0x4000
      ∧ rangesMeet ramShared.first ramShared.last 0x8000 0xC000 = true ∧ ramShared.tag = .both
      ∧ (∃ r ∈ board.resources, r.handle = 2 ∧ r.tag = .user)
      ∧ (∀ r ∈ board.resources, ¬(r.handle = 2 ∧ r.tag = .system))
      ∧ (∀ g ∈ board.mapped, g.address = (0x8000 : Word) → ¬(g.tag = .system ∨ g.tag = .both))
      ∧ (∃ g ∈ board.mapped, g.address = 0x8000 ∧ g.tag = .user)
      ∧ (∀ g ∈ board.mapped, ¬(g.address = (0xC011 : Word) ∧ g.tag = .both)) := by decide

/-- No address of the free range is taken by a clashing tag: the premise as the statement writes it. -/
theorem witness_RegistrationCalls_free :
    ∀ r ∈ board.resources, ∀ a : Word, r.first.toNat ≤ a.toNat → a.toNat ≤ r.last.toNat →
      (0x8000 : Word).toNat ≤ a.toNat → a.toNat ≤ (0xBFFF : Word).toNat →
        ¬(r.tag = .user ∨ r.tag = .both ∨ Privilege.user = .both) ∧ r.backing ≠ 3 := by
  intro r hr a h1 h2 h3 h4
  simp only [board, List.mem_cons, List.not_mem_nil, or_false] at hr
  rcases hr with rfl | rfl | rfl | rfl <;> simp at h1 h2 h3 h4 <;> omega

theorem witness_FailingRegistrationChangesNothing :
    hostMove (.registerResource (.fresh { size := 1, bytes := [] }) 0xCFFF 0xCFFF .user) board
        = .fault (.memoryControllerError board)
      ∧ hostMove (.unregisterResource 9 .both) board = .fault (.memoryControllerError board)
      ∧ hostMove (.registerMapped (.fresh (.latch 0)) 0xC011 .both) board
          = .fault (.memoryControllerError board)
      ∧ hostMove (.unregisterMapped 0xC012 .both) board = .fault (.memoryControllerError board)
      ∧ hostMove (.load [1, 2] 0xCFFF none) board = .fault (.memoryControllerError board) := by decide

/-- The last address, whose successor is 0x0000. -/
theorem witness_WordAccessIsLittleEndian :
    State.reset.accessible State.reset.level 0xFFFF = true
      ∧ State.reset.accessible State.reset.level (0xFFFF + 1) = true
      ∧ board.accessible board.level 0xCFFF = true ∧ board.accessible board.level (0xCFFF + 1) = false
      ∧ board.accessible board.level 0xBFFF = false := by decide

/-- A buffer that ends on the last byte, one a byte too long, a destination with no resource. -/
theorem witness_LoadFillsTheResource :
    board.wf ∧ board.resourceAt .system 0xCFFE = some ramShared ∧ 2 < board.backings.length
      ∧ (0xCFFE : Word).toNat - ramShared.first.toNat + [1, 2].length
          ≤ ramShared.last.toNat - ramShared.first.toNat + 1
      ∧ ramShared.last.toNat - ramShared.first.toNat + 1
          < (0xCFFE : Word).toNat - ramShared.first.toNat + [1, 2, 3].length
      ∧ board.resourceAt .system 0x8000 = none := by decide

theorem witness_DecodeOfEncode :
    (Instr.setBR 7 .a).wellFormed = true ∧ (Instr.ldDdNn .sp 0xFFFF).wellFormed = true := by decide

theorem witness_EncodeOfDecode : decode [0xDD, 0x21, 0x34, 0x12, 0x00] = .ok (.ldIxNn 0x1234, [0x00]) :=
  rfl

/-- A prefix byte at the last address, and a byte that is none. -/
theorem witness_FetchProperty :
    (State.reset.accessible .system 0x0000 = true
      ∧ State.reset.readValue .system 0x0000 ∉ ([0xCB, 0xDD, 0xFD, 0xFC] : List Byte))
    ∧ ((cpu { r0 with pc := 0xFFFF } [0xFC] []).accessible .system 0xFFFF = true
      ∧ (cpu { r0 with pc := 0xFFFF } [0xFC] []).readValue .system 0xFFFF
          ∈ ([0xCB, 0xDD, 0xFD, 0xFC] : List Byte)
      ∧ (cpu { r0 with pc := 0xFFFF } [0xFC] []).accessible .system (0xFFFF + 1) = true) := by decide

theorem witness_UnmappedOpcodeIsNoOp :
    (cpu r0 [0xF4] []).plainByte .system 0x0100 = some 0xF4
      ∧ (cpu r0 [0xDD, 0xDD] []).plainByte .system 0x0100 = some 0xDD
      ∧ (cpu r0 [0xDD, 0xDD] []).plainByte .system 0x0101 = some 0xDD
      ∧ (cpu r0 [0xFC, 0x76] []).plainByte .system 0x0100 = some 0xFC
      ∧ (cpu r0 [0xFC, 0x76] []).plainByte .system 0x0101 = some 0x76 := by decide

theorem witness_StepRunsTheDecodedInstruction :
    (cpu r0 [0xCD, 0x34, 0x12] []).hostMoves = []
      ∧ decode [0xCD, 0x34, 0x12] = .ok (.call 0x1234, [])
      ∧ (answerSignals (cpu r0 [0xCD, 0x34, 0x12] [])).holdsBytes .system 0x0100 [0xCD, 0x34, 0x12] :=
  ⟨by decide, rfl, by decide, by decide, by decide, trivial⟩

/-- One signal of each kind raised, and a condition that fails. -/
theorem witness_SignalsFollowTheOpcode :
    (∃ t, exec .reti State.reset = .next t) ∧ (∃ t, exec .lduAIndBc State.reset = .next t)
      ∧ (∃ t, exec (.jrCc .z 5) State.reset = .next t) ∧ condHolds .z State.reset.regs.f = false :=
  ⟨⟨_, rfl⟩, ⟨_, rfl⟩, ⟨_, rfl⟩, rfl⟩

/-- An instruction that completes, and one that faults after half of its push. -/
theorem witness_ExecKeepsLevelAndRouting :
    (∃ t, exec (.pushQq .bc) (cpu { r0 with sp := 0xC002 } [] []) = .next t)
      ∧ (∃ f, exec (.pushQq .bc) (cpu { r0 with sp := 0xC001 } [] []) = .fault f) :=
  ⟨⟨_, rfl⟩, ⟨_, rfl⟩⟩

theorem witness_RegisterFrame :
    (∃ t, exec (.addAN 1) State.reset = .next t)
      ∧ Register.r8 .b ∉ (writtenRegisters (.addAN 1)).flatMap cellsOf
      ∧ Register.r16 .pc ∉ (writtenRegisters (.addAN 1)).flatMap cellsOf :=
  ⟨⟨_, rfl⟩, by decide, by decide⟩

/-- The bytes on both sides of the two that `LD (nn),SP` stores; a device's address; a byte of the mirror that is
not stored to. -/
theorem witness_MemoryFrame :
    (∃ t, exec (.ldIndNnSp 0xFFFF) State.reset = .next t)
      ∧ (storedAddresses (.ldIndNnSp 0xFFFF) State.reset.regs).all (fun a =>
          State.reset.cellAt .system a != State.reset.cellAt .user 0xFFFE
            && State.reset.cellAt .system a != State.reset.cellAt .user 0x0001) = true
      ∧ board.cellAt .user 0xC010 = none
      ∧ (storedAddresses (.ldIndNnSp 0xC000) board.regs).all (fun a =>
          board.cellAt .system a != board.cellAt .system 0xE002) = true :=
  ⟨⟨_, rfl⟩, by decide, by decide, by decide⟩

theorem witness_LowFlagBitsKept :
    (Instr.popQq .bc).wellFormed = true ∧ Instr.popQq .bc ≠ .popQq .af
      ∧ ∃ t, exec (.popQq .bc) State.reset = .next t :=
  ⟨rfl, by decide, _, rfl⟩

theorem witness_OnlyMemoryUnmapped : (Instr.lduAIndBc).wellFormed = true := rfl

theorem witness_StepCompletesOrUnmapped :
    State.reset.hostMoves = [] ∧ (cpu { r0 with pc := 0x8000 } [] []).hostMoves = []
      ∧ stops (board.withRegs { r0 with pc := 0xD000 }) 0xD000 (fun _ => true) = true := by decide

/-- With a registration call and a bulk load lined up. -/
theorem witness_StepKeepsRouting :
    (board.withHostMoves [.registerResource (.fresh { size := 1, bytes := [(0, 9)] }) 0xD000 0xD000 .user,
        .load [1, 2] 0xC000 none]).wf
      ∧ ends (board.withHostMoves
          [.registerResource (.fresh { size := 1, bytes := [(0, 9)] }) 0xD000 0xD000 .user,
            .load [1, 2] 0xC000 none])
          (fun t => t.resources.length == 5 && t.peek .user 0xD000 == some 9
            && t.peek .system 0xE001 == some 2) = true := by decide

theorem witness_AtMostOneVisible :
    board.wf ∧ (board.mapped.filter fun g => g.standsAt .system 0xC011).length = 1
      ∧ ramShared ∈ board.resources ∧ ramShared.covers .user 0xCFFF = true := by decide

/-- A step at User, and a step from System that answers `sig.umr`. -/
theorem witness_UserStaysUser :
    ends (board.withLevel .user) (fun t => t.level == .user) = true
      ∧ board.level = .system
      ∧ ends (board.withSig { Signals.reset with umr := true }) (fun t => t.level == .user) = true := by
  decide

theorem witness_HiddenBytesPlayNoPart :
    (board.withLevel .user).hostMoves = [] ∧ (board.withLevel .user).level = .user
      ∧ (Instr.ldAIndBc).isLdu = false ∧ board.level = .system := by decide

/-- A byte of memory that a level maps, and one that it does not: the two cases of `ReadsByte`, `WritesByte`
and `UpdatesByte` (ByteLoads, ByteStores, AddResults, SubtractResults, LogicResults, IncrementResults,
RotatesAndShifts, BitOperations). -/
theorem witness_ByteAccess :
    board.accessible board.level ({ r0 with h := 0xCF, l := 0xFF }.get16 .hl) = true
      ∧ board.accessible board.level ({ r0 with h := 0xD0, l := 0x00 }.get16 .hl) = false := by decide

/-- The three cases of a push or of `LD (nn),SP` (PairStores, CallsAndRestarts): both bytes mapped, the first
not, only the second not. -/
theorem witness_PairStores :
    (board.accessible .system (0xC002 - 2 + 1) = true ∧ board.accessible .system (0xC002 - 2) = true)
      ∧ board.accessible .system (0xC000 - 2 + 1) = false
      ∧ (board.accessible .system (0xC001 - 2 + 1) = true
        ∧ board.accessible .system (0xC001 - 2) = false)
      ∧ (board.accessible .system 0xCFFF = true ∧ board.accessible .system (0xCFFF + 1) = false) := by
  decide

/-- The three cases of a pop (PairPops, Returns). -/
theorem witness_StackReads :
    (board.accessible .system 0xCFFE = true ∧ board.accessible .system (0xCFFE + 1) = true)
      ∧ board.accessible .system 0xD000 = false
      ∧ (board.accessible .system 0xCFFF = true ∧ board.accessible .system (0xCFFF + 1) = false) := by
  decide

theorem witness_CallsAndRestarts : condHolds .c 0x10 = true ∧ condHolds .c 0xEF = false := by decide

/-- User maps the byte, User does not, and a state at User. -/
theorem witness_UserPrivilegedLoads :
    board.accessible .user 0x7FFF = true ∧ board.accessible .user 0xC011 = true
      ∧ board.accessible .user 0x8001 = false ∧ (board.withLevel .user).level = .user := by decide

theorem witness_UserModeJump :
    State.reset.hostMoves = [] ∧ State.reset.outerLoop = .reference
      ∧ ({ State.reset with outerLoop := .passive } : State).outerLoop = .passive := by decide

theorem witness_FetchFaults :
    (board.withRegs { r0 with pc := 0x8000 }).accessible .system 0x8000 = false
      ∧ (cpu { r0 with pc := 0x7FFF } [0xCB] []).plainByte .system 0x7FFF = some 0xCB
      ∧ (cpu { r0 with pc := 0x7FFF } [0xCB] []).accessible .system (0x7FFF + 1) = false := by decide

theorem witness_HostRegisterAccess :
    ∃ r t, hostMove (.writeWord 0xC000 0x1234) board = .reply r t := ⟨_, _, rfl⟩

/-- A run at a HALT, one at a STOP, one at an unmapped PC, a step that faults later, one that goes on. -/
theorem witness_RunEndsAtHaltStopOrFault :
    (cpu r0 [0x76] []).hostMoves = []
      ∧ (answerSignals (cpu r0 [0x76] [])).plainByte .system 0x0100 = some 0x76
      ∧ (answerSignals (cpu r0 [0x10] [])).plainByte .system 0x0100 = some 0x10
      ∧ (answerSignals (board.withRegs { r0 with pc := 0x8000 })).accessible .system 0x8000 = false
      ∧ stops (cpu { r0 with h := 0x90 } [0x7E] []) 0x9000 (fun _ => true) = true
      ∧ ends (cpu r0 [0x00] []) (fun t => !t.sig.halt && !t.sig.stop) = true := by decide

/-- A fetch that succeeds, and a table that maps nothing. -/
theorem witness_OpcodeTableIsAParameter :
    (∃ t, fetchOpcode (cpu r0 [0x76] []) = .ok t ∧ (fun _ _ => none : Optable) t.regs.pir t.regs.ir = none)
      ∧ ∃ t, runCycleOf (fun _ _ => none) (cpu r0 [0x76] []) = .next t :=
  ⟨⟨_, rfl, rfl⟩, _, rfl⟩

/-- The cycle of the baseline table reads its operand bytes in step 3 (R148): `LD (nn),SP`, `CALL nn`. -/
theorem test_baseline_cycle :
    (match runCycleOf baseline (cpu { r0 with sp := 0xC123 } [0x08, 0x00, 0xC0] []) with
      | .next t => t.regs.pc == 0x0103 && t.peek .system 0xC000 == some 0x23
          && t.peek .system 0xC001 == some 0xC1
      | .fault _ => false
      | .refused _ => false) = true := by decide

/-- With another table: an Execute that fails after it has written the flags leaves them written, and PC past
the opcode (R433). Its destination field is none (log 24). -/
theorem test_failed_execute_keeps_writes :
    (match runCycleOf (fun _ _ => some {
          decode := fun _ _ => some { opcode := .add, mode := .registerPair, src := some (.r16 .sp) },
          execute := handleAddDisplacement }) (cpu { r0 with f := 0xF5 } [0x00] []) with
      | .next _ => false
      | .fault f => f == .registerBankError f.left && f.left.regs.f == 0x05 && f.left.regs.pc == 0x0101
      | .refused _ => false) = true := by decide

/-- A register object brought by the call itself, from reset: the byte written to it reads back (R64, R72). -/
theorem test_register_fresh_device :
    (match runHostMoves [.registerMapped (.fresh (.latch 0x55)) 0xFF40 .both, .writeByte 0xFF40 0x12]
        State.reset with
      | .ok t => t.devices == [.latch 0x12] && t.readValue .user 0xFF40 == 0x12
      | .error _ => false) = true := by decide

/-- One backing resource at two ranges: a byte written through one reads back through the other (R61). -/
theorem test_mirror :
    (match runHostMoves [.unregisterResource 0 .both,
        .registerResource (.fresh { size := 0x1000, bytes := [] }) 0xC000 0xCFFF .both,
        .registerResource (.known 1) 0xE000 0xEFFF .both, .writeByte 0xC123 0x77] State.reset with
      | .ok t => t.peek .user 0xE123 == some 0x77 && t.resources.length == 2
      | .error _ => false) = true := by decide

end Sys2Proof.Tests
end

section
/-! SUPPORT. The cycle of any opcode table (spec/00_scope.md R3, R10): it keeps the routing, and that of the baseline
table is the machine's own. -/

namespace Sys2Proof.Machine

/-! ### What a computation can complete with -/

/-- Where the computation completes, its value satisfies `P`; of a fault nothing is said. -/
def Ensures {α : Type} (P : α → Prop) (x : Except Fault α) : Prop := ∀ a, x = .ok a → P a

theorem ensures_ok {α : Type} {P : α → Prop} {a : α} (h : P a) : Ensures P (.ok a) := by
  rintro _ ⟨⟩; exact h

theorem ensures_error {α : Type} {P : α → Prop} (f : Fault) : Ensures P (.error f) := by
  rintro _ ⟨⟩

theorem ensures_true {α : Type} (x : Except Fault α) : Ensures (fun _ => True) x := fun _ _ => trivial

theorem Ensures.bind {α β : Type} {Q : α → Prop} {P : β → Prop} {x : Except Fault α}
    {f : α → Except Fault β} (hx : Ensures Q x) (hf : ∀ a, Q a → Ensures P (f a)) :
    Ensures P (x >>= f) := by
  cases x with
  | error e => exact ensures_error e
  | ok a => exact hf a (hx a rfl)

theorem Ensures.mono {α : Type} {Q P : α → Prop} {x : Except Fault α} (hx : Ensures Q x)
    (h : ∀ a, Q a → P a) : Ensures P x := fun a ha => h a (hx a ha)

theorem memReadScope_ensures (sc : SecurityLevel) (a : Word) (s : State) :
    Ensures (fun p => p = (s.readValue sc a, s.afterRead sc a)) (memReadScope sc a s) := by
  unfold memReadScope
  split
  · exact ensures_ok rfl
  · exact ensures_error _

theorem memWrite_ensures (a : Word) (v : Byte) (s : State) :
    Ensures (fun t => t = s.afterWrite s.level a v) (memWrite a v s) := by
  unfold memWrite
  split
  · exact ensures_ok rfl
  · exact ensures_error _

theorem fetchByte_ensures (s : State) :
    Ensures (fun p => p = (s.readValue s.level s.regs.pc, (s.afterRead s.level s.regs.pc).advancePc))
      (fetchByte s) := by
  refine (memReadScope_ensures s.level s.regs.pc s).bind ?_
  rintro _ rfl
  exact ensures_ok rfl

/-! ### The signals are not touched before step 2 -/

theorem fetchByte_sig (s : State) : Ensures (fun p => p.2.sig = s.sig) (fetchByte s) := by
  refine (fetchByte_ensures s).mono ?_
  rintro _ rfl
  exact afterRead_sig s s.level s.regs.pc

theorem fetchOpcode_sig (s : State) : Ensures (fun t => t.sig = s.sig) (fetchOpcode s) := by
  refine (fetchByte_sig s).bind fun p hp => ?_
  dsimp only
  split
  · refine (fetchByte_sig _).bind fun q hq => ensures_ok ?_
    exact hq.trans hp
  · exact ensures_ok hp

/-! ### Every step of a cycle keeps the level and the registrations -/

theorem State.SameRouting.refl (s : State) : s.SameRouting s := ⟨rfl, rfl, rfl, rfl, rfl, rfl, rfl⟩

theorem State.SameRouting.trans {s t u : State} (h : s.SameRouting t) (k : t.SameRouting u) :
    s.SameRouting u where
  level := k.level.trans h.level
  sizes := k.sizes.trans h.sizes
  resources := k.resources.trans h.resources
  mapped := k.mapped.trans h.mapped
  nextHandle := k.nextHandle.trans h.nextHandle
  outerLoop := k.outerLoop.trans h.outerLoop
  hostMoves := k.hostMoves.trans h.hostMoves

theorem sameRouting_withRegs (s : State) (rb : RegisterBank) : s.SameRouting (s.withRegs rb) :=
  ⟨rfl, rfl, rfl, rfl, rfl, rfl, rfl⟩

theorem sameRouting_withSig (s : State) (g : Signals) : s.SameRouting (s.withSig g) :=
  ⟨rfl, rfl, rfl, rfl, rfl, rfl, rfl⟩

theorem sameRouting_afterRead (s : State) (sc : SecurityLevel) (a : Word) :
    s.SameRouting (s.afterRead sc a) := by
  constructor <;> simp

theorem sameRouting_afterWrite (s : State) (sc : SecurityLevel) (a : Word) (v : Byte) :
    s.SameRouting (s.afterWrite sc a v) := by
  constructor <;> simp

theorem memReadScope_sameRouting (sc : SecurityLevel) (a : Word) (s : State) :
    Ensures (fun p => s.SameRouting p.2) (memReadScope sc a s) := by
  refine (memReadScope_ensures sc a s).mono ?_
  rintro _ rfl
  exact sameRouting_afterRead s sc a

theorem memWrite_sameRouting (a : Word) (v : Byte) (s : State) :
    Ensures s.SameRouting (memWrite a v s) := by
  refine (memWrite_ensures a v s).mono ?_
  rintro _ rfl
  exact sameRouting_afterWrite s s.level a v

theorem fetchByte_sameRouting (s : State) : Ensures (fun p => s.SameRouting p.2) (fetchByte s) := by
  refine (fetchByte_ensures s).mono ?_
  rintro _ rfl
  exact (sameRouting_afterRead s s.level s.regs.pc).trans (sameRouting_withRegs _ _)

theorem fetchOpcode_sameRouting (s : State) : Ensures s.SameRouting (fetchOpcode s) := by
  refine (fetchByte_sameRouting s).bind fun p hp => ?_
  dsimp only
  split
  · refine (fetchByte_sameRouting _).bind fun q hq => ensures_ok ?_
    exact ((hp.trans (sameRouting_withRegs _ _)).trans hq).trans (sameRouting_withRegs _ _)
  · exact ensures_ok (hp.trans (sameRouting_withRegs _ _))

theorem stepSrc_sameRouting (t : Traits) (di : DecodedInstruction) (s : State) :
    Ensures s.SameRouting (stepSrc t di s) := by
  unfold stepSrc
  split
  · exact (ensures_true _).bind fun _ _ => (ensures_true _).bind fun rb _ =>
      ensures_ok (sameRouting_withRegs s rb)
  · exact ensures_ok (.refl s)

theorem stepDst_sameRouting (t : Traits) (di : DecodedInstruction) (s : State) :
    Ensures s.SameRouting (stepDst t di s) := by
  unfold stepDst
  split
  · exact (ensures_true _).bind fun _ _ => (ensures_true _).bind fun rb _ =>
      ensures_ok (sameRouting_withRegs s rb)
  · exact ensures_ok (.refl s)

theorem acquireOp1_sameRouting (t : Traits) (di : DecodedInstruction) (s : State) :
    Ensures (fun p => s.SameRouting p.2) (acquireOp1 t di s) := by
  unfold acquireOp1
  cases t.op1 with
  | skip => exact ensures_ok (.refl s)
  | atPC => exact ensures_ok (.refl s)
  | implicitReg =>
    exact (ensures_true _).bind fun _ _ => (memReadScope_sameRouting _ _ s).bind fun _ h => ensures_ok h
  | atRegister =>
    exact (ensures_true _).bind fun _ _ => (memReadScope_sameRouting _ _ s).bind fun p h =>
      (stepSrc_sameRouting t di p.2).bind fun _ k => ensures_ok (h.trans k)

theorem acquireOp2_sameRouting (t : Traits) (di : DecodedInstruction) (s : State) :
    Ensures (fun p => s.SameRouting p.2) (acquireOp2 t di s) := by
  unfold acquireOp2
  cases t.op2 with
  | skip => exact ensures_ok (.refl s)
  | atPC => exact ensures_ok (.refl s)
  | atComposed =>
    exact (ensures_true _).bind fun _ _ => (memReadScope_sameRouting _ _ s).bind fun _ h => ensures_ok h
  | direct =>
    exact (ensures_true _).bind fun _ _ => (memReadScope_sameRouting _ _ s).bind fun p h =>
      (stepSrc_sameRouting t di p.2).bind fun _ k => ensures_ok (h.trans k)
  | implicitImm => exact (memReadScope_sameRouting _ _ s).bind fun _ h => ensures_ok h

theorem acquireOp3_sameRouting (t : Traits) (di : DecodedInstruction) (s : State) :
    Ensures (fun p => s.SameRouting p.2) (acquireOp3 t di s) := by
  unfold acquireOp3
  split
  · exact (memReadScope_sameRouting _ _ s).bind fun _ h => ensures_ok h
  · exact ensures_ok (.refl s)

theorem acquireFirst_sameRouting (t : Traits) (di : DecodedInstruction) (s : State) :
    Ensures (fun p => s.SameRouting p.2) (acquireFirst t di s) := by
  unfold acquireFirst
  split
  · exact (fetchByte_sameRouting s).bind fun _ h => ensures_ok h
  · exact acquireOp1_sameRouting t di s

theorem acquireSecond_sameRouting (t : Traits) (di : DecodedInstruction) (s : State) :
    Ensures (fun p => s.SameRouting p.2) (acquireSecond t di s) := by
  unfold acquireSecond
  split
  · exact (fetchByte_sameRouting s).bind fun _ h => ensures_ok h
  · exact acquireOp2_sameRouting t di s

theorem acquireAll_sameRouting (t : Traits) (di : DecodedInstruction) (s : State) :
    Ensures (fun p => s.SameRouting p.2) (acquireAll t di s) :=
  (acquireFirst_sameRouting t di s).bind fun p h => (acquireSecond_sameRouting t p.1 p.2).bind fun q k =>
    (acquireOp3_sameRouting t q.1 q.2).mono fun _ l => (h.trans k).trans l

theorem executeStep_sameRouting (h : Handler) (di : DecodedInstruction) (s : State) :
    Ensures (fun p => s.SameRouting p.2) (executeStep h di s) := by
  rintro ⟨di', t⟩ he
  obtain ⟨rb, g, rfl⟩ := executeStep_inv he
  exact (sameRouting_withRegs s rb).trans (sameRouting_withSig _ g)

theorem pushResult_sameRouting (di : DecodedInstruction) (s : State) :
    Ensures s.SameRouting (pushResult di s) :=
  (memWrite_sameRouting _ _ s).bind fun t h => (memWrite_sameRouting _ _ t).bind fun u k =>
    ensures_ok ((h.trans k).trans (sameRouting_withRegs u _))

theorem writeBack_sameRouting (t : Traits) (di : DecodedInstruction) (s : State) :
    Ensures s.SameRouting (writeBack t di s) := by
  unfold writeBack
  split
  · exact ensures_ok (.refl s)
  cases t.wb with
  | skip => exact ensures_ok (.refl s)
  | atOperandAddress => exact (ensures_true _).bind fun _ _ => memWrite_sameRouting _ _ s
  | atRegister =>
    exact (ensures_true _).bind fun _ _ => (memWrite_sameRouting _ _ s).bind fun u h =>
      (stepDst_sameRouting t di u).mono fun _ k => h.trans k
  | atComposed => exact memWrite_sameRouting _ _ s
  | implicitReg => exact (ensures_true _).bind fun _ _ => memWrite_sameRouting _ _ s
  | implicitImm => exact memWrite_sameRouting _ _ s
  | pairAtSP => exact pushResult_sameRouting di s
  | pairAtImm =>
    exact (memWrite_sameRouting _ _ s).bind fun u h =>
      (memWrite_sameRouting _ _ u).mono fun _ k => h.trans k

theorem decodeStep_sameRouting (table : Optable) (s : State) :
    Ensures (fun o => ∀ p, o = some p → s.SameRouting p.2) (decodeStep table s) := by
  unfold decodeStep
  split
  · refine ensures_ok ?_
    rintro _ ⟨⟩
  · refine (ensures_true _).bind fun di _ => ensures_ok ?_
    rintro _ ⟨⟩
    exact sameRouting_withSig s _

theorem cycleSteps_sameRouting (table : Optable) (s : State) :
    Ensures s.SameRouting (cycleSteps table s) := by
  refine (fetchOpcode_sameRouting s).bind fun t h => (decodeStep_sameRouting table t).bind fun o k => ?_
  cases o with
  | none =>
    exact ensures_ok ((h.trans (sameRouting_withSig t _)).trans (sameRouting_withSig _ _))
  | some p =>
    have hp := h.trans (k p rfl)
    dsimp only
    cases traitsOf p.1.di.mode with
    | none => exact ensures_error _
    | some tr =>
      exact (acquireAll_sameRouting tr p.1.di p.2).bind fun q hq =>
        (executeStep_sameRouting p.1.handler q.1 q.2).bind fun r hr =>
          (writeBack_sameRouting tr r.1 r.2).mono fun _ hw => ((hp.trans hq).trans hr).trans hw

theorem finish_next {x : Except Fault State} {t : State} (h : finish x = .next t) : x = .ok t := by
  cases x with
  | error f => cases h
  | ok s => cases h; rfl

/-! ### An unmapped entry -/

theorem noOpState_eq_quiet (s : State) : noOpState s = s.withSig (s.sig.quiet false) := rfl

theorem decodeStep_unmapped {table : Optable} {s : State} (h : table s.regs.pir s.regs.ir = none) :
    decodeStep table s = .ok none := by
  unfold decodeStep; rw [h]

theorem decodeStep_found {table : Optable} {s : State} {h : OpHandler}
    (ht : table s.regs.pir s.regs.ir = some h) {di : DecodedInstruction}
    (hd : ∀ p, h.decode s.regs.ir p = some di) :
    decodeStep table s
      = .ok (some ({ handler := h.execute, di := di }, s.withUmsor di.requestsUserSource)) := by
  unfold decodeStep; simp only [ht, hd]; rfl

/-- A row whose Decode fails gives its RegisterBank error (R37, R133). -/
theorem decodeStep_failed {table : Optable} {s : State} {h : OpHandler}
    (ht : table s.regs.pir s.regs.ir = some h) (hd : ∀ p, h.decode s.regs.ir p = none) :
    decodeStep table s = .error (.registerBankError s) := by
  unfold decodeStep; simp only [ht, hd]; rfl

theorem runCycleOf_unmapped {table : Optable} {s t : State} (hf : fetchOpcode s = .ok t)
    (hn : table t.regs.pir t.regs.ir = none) : runCycleOf table s = .next (noOpState t) := by
  unfold runCycleOf cycleSteps
  rw [hf, ok_bind, decodeStep_unmapped hn]
  rfl

/-! ### The rows of the table: a template has the operand bytes of its mode -/

/-- Which of the first two operands the mode reads at PC (R138). -/
def readsAtPc (m : AddressingMode) : Option (Bool × Bool) :=
  (traitsOf m).map fun t => (decide (t.op1 = .atPC), decide (t.op2 = .atPC))

/-- The template has as many operand bytes as the mode of its instruction reads at PC, the filled instruction is the
unread one but for those bytes in `op1` and `op2`, and both decide `sig.umsor` alike (R133, R135, R141; log 5). -/
inductive FillsAtPc : Template → Prop
  | op0 (i : Instr) (hmode : readsAtPc (decodedOf i).di.mode = some (false, false))
      (hldu : (decodedOf i).di.requestsUserSource = i.isLdu) : FillsAtPc (.op0 i)
  | op1 (f : Byte → Instr) (hmode : readsAtPc (decodedOf (f 0)).di.mode = some (true, false))
      (hldu : (decodedOf (f 0)).di.requestsUserSource = false)
      (hfill : ∀ x, decodedOf (f x)
        = { decodedOf (f 0) with di := { (decodedOf (f 0)).di with op1 := x } }) : FillsAtPc (.op1 f)
  | op2 (f : Word → Instr) (hmode : readsAtPc (decodedOf (f 0)).di.mode = some (true, true))
      (hldu : (decodedOf (f 0)).di.requestsUserSource = false)
      (hfill : ∀ v, decodedOf (f v)
        = { decodedOf (f 0) with di := (decodedOf (f 0)).di.withImmediate v }) : FillsAtPc (.op2 f)

/-- The pages of R105 to R109, row by row: each row's Decode and its template are computed. -/
theorem pageRows_fillAtPc (pir : Byte) :
    ∀ row ∈ pageRows pir, ∀ ir t, row.build ir = some t → FillsAtPc t := by
  unfold pageRows
  split
  all_goals
    simp only [primaryRows, primaryRows1, primaryRows2, primaryRows3, primaryRows4, primaryRows5, cbRows,
      cbRows1, cbRows2, ddRows, fdRows, fcRows, List.forall_mem_append, List.forall_mem_cons,
      List.not_mem_nil, false_imp_iff, implies_true, and_true, Option.bind_eq_some_iff,
      Option.some.injEq, forall_exists_index, and_imp, forall_eq', forall_apply_eq_imp_iff₂]
  all_goals
    and_intros
    all_goals
      intros
      subst_vars
      constructor <;> intros <;> rfl

/-- Every template that a lookup finds. -/
theorem lookup_fillsAtPc {pir ir : Byte} {t : Template} (h : lookup pir ir = .found t) : FillsAtPc t := by
  unfold lookup at h
  split at h
  · cases h
  · rename_i row hrow
    split at h
    · cases h
    · cases h
      exact pageRows_fillAtPc pir row (List.mem_of_find?_eq_some hrow) ir t ‹_›

/-! ### Step 3 reads the operand bytes that fetching reads -/

theorem fetchOperands_sig (t : Template) (s : State) :
    Ensures (fun p => p.2.sig = s.sig) (fetchOperands t s) := by
  cases t with
  | op0 i => exact ensures_ok rfl
  | op1 f => exact (fetchByte_sig s).bind fun _ h => ensures_ok h
  | op2 f =>
    exact (fetchByte_sig s).bind fun p h => (fetchByte_sig p.2).bind fun _ k => ensures_ok (k.trans h)

/-- The filled instruction has the handler, the mode and the signal of the unread one. -/
theorem fetchOperands_decoded {t : Template} (ht : FillsAtPc t) (s : State) :
    Ensures (fun p => (decodedOf p.1).handler = (decodedOf (unread t)).handler
        ∧ (decodedOf p.1).di.mode = (decodedOf (unread t)).di.mode
        ∧ (decodedOf p.1).di.requestsUserSource = (decodedOf (unread t)).di.requestsUserSource)
      (fetchOperands t s) := by
  cases ht with
  | op0 i hmode hldu => exact ensures_ok ⟨rfl, rfl, rfl⟩
  | op1 f hmode hldu hfill =>
    refine (ensures_true _).bind fun p _ => ensures_ok ?_
    rw [hfill]
    exact ⟨rfl, rfl, rfl⟩
  | op2 f hmode hldu hfill =>
    refine (ensures_true _).bind fun p _ => (ensures_true _).bind fun q _ => ensures_ok ?_
    rw [hfill]
    exact ⟨rfl, rfl, rfl⟩

theorem isLdu_eq {t : Template} (ht : FillsAtPc t) :
    t.isLdu = (decodedOf (unread t)).di.requestsUserSource := by
  cases ht with
  | op0 i hmode hldu => exact hldu.symm
  | op1 f hmode hldu hfill => exact hldu.symm
  | op2 f hmode hldu hfill => exact hldu.symm

/-- What the descriptor says of the two operands where it is known which of them are read at PC. -/
theorem traits_of_readsAtPc {m : AddressingMode} {a b : Bool} {tr : Traits} (h : readsAtPc m = some (a, b))
    (htr : traitsOf m = some tr) : decide (tr.op1 = .atPC) = a ∧ decide (tr.op2 = .atPC) = b := by
  simpa [readsAtPc, htr] using h

theorem acquireFirst_other {tr : Traits} (h : tr.op1 ≠ .atPC) (di : DecodedInstruction) (s : State) :
    acquireFirst tr di s = acquireOp1 tr di s := if_neg h

theorem acquireSecond_other {tr : Traits} (h : tr.op2 ≠ .atPC) (di : DecodedInstruction) (s : State) :
    acquireSecond tr di s = acquireOp2 tr di s := if_neg h

theorem acquireFirst_atPC {tr : Traits} (h : tr.op1 = .atPC) (di : DecodedInstruction) (s : State) :
    acquireFirst tr di s = fetchByte s >>= fun p => .ok ({ di with op1 := p.1 }, p.2) := if_pos h

theorem acquireSecond_atPC {tr : Traits} (h : tr.op2 = .atPC) (di : DecodedInstruction) (s : State) :
    acquireSecond tr di s = fetchByte s >>= fun p => .ok ({ di with op2 := p.1 }, p.2) := if_pos h

theorem acquireOp1_atPC {tr : Traits} (h : tr.op1 = .atPC) (di : DecodedInstruction) (s : State) :
    acquireOp1 tr di s = .ok (di, s) := by
  unfold acquireOp1; rw [h]

theorem acquireOp2_atPC {tr : Traits} (h : tr.op2 = .atPC) (di : DecodedInstruction) (s : State) :
    acquireOp2 tr di s = .ok (di, s) := by
  unfold acquireOp2; rw [h]

/-- Acquisition with the reads at PC in it is the fetch of the operand bytes, then acquisition with them there
(R141, R148; log 5). -/
theorem acquireAll_eq_fetchOperands {t : Template} (ht : FillsAtPc t) {tr : Traits}
    (htr : traitsOf (decodedOf (unread t)).di.mode = some tr) (s : State) :
    acquireAll tr (decodedOf (unread t)).di s
      = fetchOperands t s >>= fun p => acquire tr (decodedOf p.1).di p.2 := by
  unfold acquireAll acquire
  cases ht with
  | op0 i hmode hldu =>
    obtain ⟨h1, h2⟩ := traits_of_readsAtPc hmode htr
    simp only [acquireFirst_other (of_decide_eq_false h1), acquireSecond_other (of_decide_eq_false h2)]
    rfl
  | op1 f hmode hldu hfill =>
    obtain ⟨h1, h2⟩ := traits_of_readsAtPc hmode htr
    simp only [acquireFirst_atPC (of_decide_eq_true h1), acquireSecond_other (of_decide_eq_false h2),
      acquireOp1_atPC (of_decide_eq_true h1), fetchOperands]
    cases fetchByte s with
    | error e => rfl
    | ok p => simp only [ok_bind, hfill p.1]; rfl
  | op2 f hmode hldu hfill =>
    obtain ⟨h1, h2⟩ := traits_of_readsAtPc hmode htr
    simp only [acquireFirst_atPC (of_decide_eq_true h1), acquireSecond_atPC (of_decide_eq_true h2),
      acquireOp1_atPC (of_decide_eq_true h1), acquireOp2_atPC (of_decide_eq_true h2), fetchOperands]
    cases fetchByte s with
    | error e => rfl
    | ok p =>
      simp only [ok_bind]
      cases fetchByte p.2 with
      | error e => rfl
      | ok q =>
        simp only [ok_bind, hfill (join q.1 p.1), DecodedInstruction.withImmediate, lo_join, hi_join]
        rfl

/-! ### The baseline table -/

theorem baseline_unmapped {pir ir : Byte} (h : lookup pir ir = .unmapped) : baseline pir ir = none := by
  unfold baseline; rw [h]

theorem baseline_badRegister {pir ir : Byte} (h : lookup pir ir = .badRegister) :
    baseline pir ir = some { decode := fun _ _ => none, execute := handleNop } := by
  unfold baseline; rw [h]

theorem baseline_found {pir ir : Byte} {t : Template} (h : lookup pir ir = .found t) :
    baseline pir ir
      = some { decode := fun _ _ => some (decodedOf (unread t)).di,
               execute := (decodedOf (unread t)).handler } := by
  unfold baseline; rw [h]

theorem withUmsor_sig_self (s : State) : s.withUmsor s.sig.umsor = s := rfl

/-- Every mode has a descriptor (R149). -/
theorem traitsOf_total (m : AddressingMode) : ∃ tr, traitsOf m = some tr := by
  cases m <;> exact ⟨_, rfl⟩

/-- Steps 3 to 5 of the baseline cycle are the fetch of the operand bytes, then the meaning of the instruction. -/
theorem foundSteps_eq {t : Template} (ht : FillsAtPc t) {tr : Traits}
    (htr : traitsOf (decodedOf (unread t)).di.mode = some tr) (s : State) :
    (acquireAll tr (decodedOf (unread t)).di (s.withUmsor (decodedOf (unread t)).di.requestsUserSource)
        >>= fun p => executeStep (decodedOf (unread t)).handler p.1 p.2 >>= fun q => writeBack tr q.1 q.2)
      = fetchOperands t (s.withUmsor t.isLdu)
          >>= fun p => runSteps (decodedOf p.1).handler (decodedOf p.1).di p.2 := by
  rw [isLdu_eq ht, acquireAll_eq_fetchOperands ht htr]
  cases hf : fetchOperands t (s.withUmsor (decodedOf (unread t)).di.requestsUserSource) with
  | error e => rfl
  | ok p =>
    obtain ⟨hh, hm, hu⟩ := fetchOperands_decoded ht _ p hf
    have hs : p.2.withUmsor (decodedOf p.1).di.requestsUserSource = p.2 := by
      have hsig := fetchOperands_sig t _ p hf
      rw [hu]
      simpa [hsig] using withUmsor_sig_self p.2
    simp only [ok_bind, runSteps, hs, hm, htr, hh]

theorem cycleSteps_baseline_found {s u : State} {t : Template} (hf : fetchOpcode s = .ok u)
    (hl : lookup u.regs.pir u.regs.ir = .found t) :
    cycleSteps baseline s
      = fetchOperands t (u.withUmsor t.isLdu)
          >>= fun p => runSteps (decodedOf p.1).handler (decodedOf p.1).di p.2 := by
  have ht := lookup_fillsAtPc hl
  obtain ⟨tr, htr⟩ := traitsOf_total (decodedOf (unread t)).di.mode
  unfold cycleSteps
  rw [hf, ok_bind, decodeStep_found (baseline_found hl) fun _ => rfl, ok_bind, ← foundSteps_eq ht htr]
  dsimp only
  rw [htr]

/-- The cycle of the baseline table is the machine's own (R3, R173). -/
theorem runCycleOf_baseline (s : State) : runCycleOf baseline s = runCycle s := by
  unfold runCycleOf runCycle fetchInstr
  cases hf : fetchOpcode s with
  | error f => unfold cycleSteps; rw [hf]; rfl
  | ok u =>
    dsimp only
    cases hl : lookup u.regs.pir u.regs.ir with
    | unmapped => exact runCycleOf_unmapped hf (baseline_unmapped hl)
    | badRegister =>
      unfold cycleSteps
      rw [hf, ok_bind, decodeStep_failed (baseline_badRegister hl) fun _ => rfl]
      rfl
    | found t =>
      rw [cycleSteps_baseline_found hf hl]
      dsimp only
      cases fetchOperands t (u.withUmsor t.isLdu) with
      | error f => rfl
      | ok p => exact (exec_eq_run p.1 p.2).symm

/-! ### The statement -/

theorem stepOf_baseline (s : State) : stepOf baseline s = step s := by
  unfold stepOf step
  cases hostTurn s with
  | error r => rfl
  | ok u => exact runCycleOf_baseline u

/-- Settles O60: the baseline cycle reads its operand bytes in step 3 and the machine's own right after the opcode,
which is the same sequence of accesses; every step of a cycle keeps the routing, whatever the handler. -/
theorem opcodeTableIsAParameter : Obligations.OpcodeTableIsAParameter := by
  unfold Obligations.OpcodeTableIsAParameter
  refine ⟨stepOf_baseline, fun table s t hf hn => ?_, fun table s t h => ?_⟩
  · rw [runCycleOf_unmapped hf hn, noOpState_eq_quiet, fetchOpcode_sig s t hf]
  · exact cycleSteps_sameRouting table s t (finish_next h)

end Sys2Proof.Machine
end

section
/-! SUPPORT. The RegisterBank by itself (spec/10_state.md R20 to R38) and the state after reset (R51): which cells a
write leaves, one bit of F per flag operation, the register-code tables. -/

namespace Sys2Proof.Machine

/-! ### What a write leaves -/

/-- An 8-bit write leaves every 16-bit name that it is no half of (R24). -/
theorem get16_set8_of_notMem (rb : RegisterBank) {x : Reg8} {y : Reg16} (v : Byte)
    (h : Register.r8 x ∉ cellsOf (.r16 y)) : (rb.set8 x v).get16 y = rb.get16 y := by
  cases y with
  | pc | sp | ix | iy => simp
  | hl | bc | de | af =>
    revert h
    cases x <;> simp [cellsOf, RegisterBank.set8, RegisterBank.get16]

/-- A 16-bit write leaves every 8-bit cell that is no half of it (R24). -/
theorem get8_set16_of_notMem (rb : RegisterBank) {x : Reg16} {y : Reg8} (v : Word)
    (h : Register.r8 y ∉ cellsOf (.r16 x)) : (rb.set16 x v).get8 y = rb.get8 y := by
  cases x with
  | pc | sp | ix | iy => cases y <;> rfl
  | hl | bc | de | af =>
    revert h
    cases y <;> simp [cellsOf, RegisterBank.set16, RegisterBank.get8]

/-- No two 16-bit names share a cell. -/
theorem get16_set16 (rb : RegisterBank) (x y : Reg16) (v : Word) :
    (rb.set16 x v).get16 y = if y = x then v else rb.get16 y := by
  by_cases h : y = x
  · rw [h, if_pos rfl, get16_set16_same]
  · rw [if_neg h]
    revert h
    cases x <;> cases y <;> simp [RegisterBank.set16, RegisterBank.get16]

/-! ### The pairs -/

/-- Settles O1: a pair is its two halves, and a word is the join of its bytes. -/
theorem pairRoundTrip : Obligations.PairRoundTrip := by
  unfold Obligations.PairRoundTrip
  intro rb v
  exact ⟨⟨get16_set16_same rb .hl v, rfl, rfl⟩, ⟨get16_set16_same rb .bc v, rfl, rfl⟩,
    ⟨get16_set16_same rb .de v, rfl, rfl⟩, ⟨get16_set16_same rb .af v, rfl, rfl⟩⟩

/-- Settles O2, from the four rules of a read after a write. -/
theorem registerCellsAreIndependent : Obligations.RegisterCellsAreIndependent := by
  unfold Obligations.RegisterCellsAreIndependent
  intro rb
  refine ⟨get8_set8 rb, fun x y v => get16_set8_of_notMem rb v, fun x y v => get8_set16_of_notMem rb v,
    get16_set16 rb, fun x => ?_, fun x => ?_⟩
  · cases x <;> rfl
  · cases x <;> simp [RegisterBank.read, RegisterBank.write, RegisterBank.readPair, RegisterBank.writePair, isPair]

/-! ### The flags -/

/-- Settles O3: a flag write is a write of one bit of F. -/
theorem flagOperationTouchesOneBit : Obligations.FlagOperationTouchesOneBit := by
  unfold Obligations.FlagOperationTouchesOneBit
  intro rb f v bit
  have hbit : bit = f.bit := by cases f <;> rfl
  rw [hbit]
  exact ⟨getLsbD_writeBit rb.f f.bit_lt v, rfl, rfl, rfl, rfl⟩

/-! ### The register codes -/

/-- Settles O4: each table on all 256 codes, each reverse translation name by name. -/
theorem registerCodeTables : Obligations.RegisterCodeTables := by
  unfold Obligations.RegisterCodeTables
  refine ⟨by decide, by decide, by decide, by decide, by decide, fun x => ?_, fun x => ?_, fun x => ?_⟩
  all_goals cases x <;> decide

/-! ### Reset -/

/-- Settles O5: reset computes. -/
theorem resetState : Obligations.ResetState := ⟨rfl, rfl, rfl⟩

/-- Settles O31: one resource of 65,536 bytes with nothing listed, one registration of just that size, no mapped
register. -/
theorem resetRouting : Obligations.ResetRouting := by
  unfold Obligations.ResetRouting
  have hbacking : ∀ m ∈ resetBackings, m.wf := by
    intro m hm
    obtain rfl := List.mem_singleton.1 hm
    exact ⟨Memory.wf_nil, fun _ h => absurd h List.not_mem_nil⟩
  have hresource : ∀ r ∈ resetMemmap, r.wf resetBackings 1 := by
    intro r hr
    obtain rfl := List.mem_singleton.1 hr
    decide
  exact ⟨hbacking, hresource, List.pairwise_singleton _ _, List.Pairwise.nil⟩

end Sys2Proof.Machine
end

section
/-! SUPPORT. What a cycle can write in the RegisterBank (spec/10_state.md R20, R32, R33): the writes are named once, as
an inductive relation, and every handler and every step of a cycle stays inside the ones its instruction allows. -/

namespace Sys2Proof.Machine

/-! ### How a computation can end -/

/-- A computation that completes gives a value with `P`; one that fails leaves something with `E`. -/
def Yields {ε α : Type} (E : ε → Prop) (P : α → Prop) : Except ε α → Prop
  | .ok a => P a
  | .error e => E e

section Yields

variable {ε α β : Type} {E E' : ε → Prop} {P Q : α → Prop} {R : β → Prop} {x : Except ε α}

theorem yields_ok {a : α} (h : P a) : Yields E P (.ok a) := h

theorem yields_error {e : ε} (h : E e) : Yields E P (.error e) := h

theorem Yields.bind {f : α → Except ε β} (hx : Yields E Q x) (hf : ∀ a, Q a → Yields E R (f a)) :
    Yields E R (x >>= f) := by
  cases x with
  | error e => exact hx
  | ok a => exact hf a hx

theorem Yields.mono (hx : Yields E Q x) (hE : ∀ e, E e → E' e) (hP : ∀ a, Q a → P a) :
    Yields E' P x := by
  cases x with
  | error e => exact hE e hx
  | ok a => exact hP a hx

theorem Yields.map {f : α → β} (hx : Yields E Q x) (hf : ∀ a, Q a → R (f a)) :
    Yields E R (x.map f) := by
  cases x with
  | error e => exact hx
  | ok a => exact hf a hx

end Yields

theorem Yields.of_next {E : Fault → Prop} {P : State → Prop} {x : Except Fault State} {t : State}
    (hx : Yields E P x) (h : finish x = .next t) : P t := by
  rw [finish_next h] at hx
  exact hx

theorem Yields.of_fault {E : Fault → Prop} {P : State → Prop} {x : Except Fault State} {f : Fault}
    (hx : Yields E P x) (h : finish x = .fault f) : E f := by
  cases x with
  | ok s => cases h
  | error e => cases h; exact hx

/-! ### The writes of a RegisterBank -/

/-- `rb.Writes may flags rb'`: `rb'` is `rb` after whole writes of registers with `may` and, where `flags` holds, writes
of single flags. -/
inductive RegisterBank.Writes (may : Register → Prop) (flags : Prop) (rb : RegisterBank) : RegisterBank → Prop
  | none : RegisterBank.Writes may flags rb rb
  | byte {rb' : RegisterBank} {x : Reg8} (v : Byte) :
      RegisterBank.Writes may flags rb rb' → may (.r8 x) → RegisterBank.Writes may flags rb (rb'.set8 x v)
  | pair {rb' : RegisterBank} {x : Reg16} (v : Word) :
      RegisterBank.Writes may flags rb rb' → may (.r16 x) → RegisterBank.Writes may flags rb (rb'.set16 x v)
  | flag {rb' : RegisterBank} (f : Flag) (v : Bool) :
      RegisterBank.Writes may flags rb rb' → flags → RegisterBank.Writes may flags rb (rb'.writeFlag f v)

section Writes

variable {may may' : Register → Prop} {flags flags' : Prop} {rb rb' rb'' : RegisterBank}

theorem RegisterBank.Writes.trans (h : rb.Writes may flags rb') (k : rb'.Writes may flags rb'') :
    rb.Writes may flags rb'' := by
  induction k with
  | none => exact h
  | byte v _ hx ih => exact ih.byte v hx
  | pair v _ hx ih => exact ih.pair v hx
  | flag f v _ hf ih => exact ih.flag f v hf

theorem RegisterBank.Writes.mono (h : rb.Writes may flags rb') (hm : ∀ x, may x → may' x) (hf : flags → flags') :
    rb.Writes may' flags' rb' := by
  induction h with
  | none => exact .none
  | byte v _ hx ih => exact ih.byte v (hm _ hx)
  | pair v _ hx ih => exact ih.pair v (hm _ hx)
  | flag f v _ hfl ih => exact ih.flag f v (hf hfl)

/-- The four flags written. -/
theorem writes_writeFlags (hf : flags) (rb : RegisterBank) (z n h cy : Bool) :
    rb.Writes may flags (rb.writeFlags z n h cy) :=
  (((RegisterBank.Writes.none.flag .z z hf).flag .n n hf).flag .h h hf).flag .cy cy hf

theorem writes_writeZnh (hf : flags) (rb : RegisterBank) (z n h : Bool) :
    rb.Writes may flags (rb.writeZnh z n h) :=
  ((RegisterBank.Writes.none.flag .z z hf).flag .n n hf).flag .h h hf

theorem writes_writeNhc (hf : flags) (rb : RegisterBank) (n h cy : Bool) :
    rb.Writes may flags (rb.writeNhc n h cy) :=
  ((RegisterBank.Writes.none.flag .n n hf).flag .h h hf).flag .cy cy hf

/-! ### What the writes leave -/

/-- An 8-bit cell keeps its value where no name that may be written stands for it. -/
theorem RegisterBank.Writes.get8_eq (h : rb.Writes may flags rb') {y : Reg8}
    (hm : ∀ x, may x → Register.r8 y ∉ cellsOf x) (hf : y = .f → ¬flags) : rb'.get8 y = rb.get8 y := by
  induction h with
  | none => rfl
  | byte v _ hx ih =>
    rw [get8_set8, if_neg, ih]
    rintro rfl
    exact hm _ hx (List.mem_singleton_self _)
  | pair v _ hx ih => rw [get8_set16_of_notMem _ v (hm _ hx), ih]
  | @flag rb₁ f v _ hfl ih =>
    have hy : y ≠ .f := fun h => hf h hfl
    rw [← ih, show rb₁.writeFlag f v = rb₁.set8 .f (writeBit rb₁.f f.bit v) from rfl, get8_set8, if_neg hy]

/-- A 16-bit name that is a cell of its own keeps its value where it may not be written. -/
theorem RegisterBank.Writes.get16_eq (h : rb.Writes may flags rb') {y : Reg16}
    (hy : cellsOf (.r16 y) = [.r16 y]) (hm : ∀ x, may x → Register.r16 y ∉ cellsOf x) :
    rb'.get16 y = rb.get16 y := by
  have hcell (x : Reg8) : Register.r8 x ∉ cellsOf (.r16 y) := by rw [hy]; simp
  induction h with
  | none => rfl
  | byte v _ hx ih => rw [get16_set8_of_notMem _ v (hcell _), ih]
  | pair v _ hx ih =>
    rw [get16_set16, if_neg, ih]
    rintro rfl
    exact hm _ hx (by rw [hy]; exact List.mem_singleton_self _)
  | @flag rb₁ f v _ hfl ih =>
    rw [← ih]
    exact get16_set8_of_notMem rb₁ (writeBit rb₁.f f.bit v) (hcell .f)

/-- A flag write is at bit 4 or above (R30). -/
theorem writeBit_flag_and_low (x : Byte) (f : Flag) (v : Bool) : writeBit x f.bit v &&& 0x0F = x &&& 0x0F := by
  refine BitVec.eq_of_getLsbD_eq fun j hj => ?_
  rw [BitVec.getLsbD_and, BitVec.getLsbD_and, getLsbD_writeBit x f.bit_lt]
  by_cases h : j = f.bit
  · subst h
    cases f <;> simp [Flag.bit]
  · rw [if_neg h]

/-- Bits 3 to 0 of F keep their value where F may not be written whole (R33). -/
theorem RegisterBank.Writes.lowFlags_eq (h : rb.Writes may flags rb')
    (hm : ∀ x, may x → Register.r8 .f ∉ cellsOf x) : rb'.f &&& 0x0F = rb.f &&& 0x0F := by
  induction h with
  | none => rfl
  | @byte rb₁ x v _ hx ih =>
    have hfx : Reg8.f ≠ x := by rintro rfl; exact hm _ hx (List.mem_singleton_self _)
    rw [← ih, show (rb₁.set8 x v).f = rb₁.f from (get8_set8 rb₁ x .f v).trans (if_neg hfx)]
  | @pair rb₁ x v _ hx ih =>
    rw [← ih, show (rb₁.set16 x v).f = rb₁.f from get8_set16_of_notMem rb₁ v (hm _ hx)]
  | @flag rb₁ f v _ _ ih => exact (writeBit_flag_and_low rb₁.f f v).trans ih

end Writes

/-! ### The handlers -/

/-- What Execute or ConditionallyExecute gives, with whether the condition failed (R150, R153). -/
def Handler.result (h : Handler) (rb : RegisterBank) (di : DecodedInstruction) :
    BankResult (RegisterBank × DecodedInstruction × Bool) :=
  match h with
  | .unconditional f => (f rb di).map fun p => (p.1, p.2, false)
  | .conditional f => f rb di

/-- The condition of the handler fails (R153, R350). -/
def Handler.aborts (h : Handler) (rb : RegisterBank) (di : DecodedInstruction) : Bool :=
  match h with
  | .unconditional _ => false
  | .conditional _ => !conditionHolds rb di.extra

/-- The signals after step 4 (R160 to R162). -/
def Signals.ended (g : Signals) (opcode : Opcode) (failed : Bool) : Signals :=
  if failed then { g.resetTransient with aborted := true } else g.resetTransient.derive opcode

/-- What step 3 leaves of a DecodedInstruction: other operand bytes. -/
def DecodedInstruction.withOperands (di : DecodedInstruction) (a b c : Byte) : DecodedInstruction :=
  { di with op1 := a, op2 := b, op3 := c }

/-- The handlers of the baseline table with what each may write in an instruction of that mode and destination:
registers with `may`, flags where `flags` holds. An 8-bit result goes to the destination where the mode has no
write-back (R155). -/
inductive Handler.Footprint (may : Register → Prop) (flags : Prop) (mode : AddressingMode) (dst : Option Register) :
    Handler → Prop
  | ld8 (hd : writesRegister mode = true → ∀ x ∈ dst, may x) : Footprint may flags mode dst handleLd8
  | ldu (hd : ∀ x ∈ dst, may x) : Footprint may flags mode dst handleLdu
  | ldImmediatePair (hd : ∀ x ∈ dst, may x) : Footprint may flags mode dst handleLdImmediatePair
  | pop (hd : ∀ x ∈ dst, may x) : Footprint may flags mode dst handlePop
  | ldRegisterPair (hd : ∀ x ∈ dst, may x) : Footprint may flags mode dst handleLdRegisterPair
  | splitPair : Footprint may flags mode dst handleSplitPair
  | addDisplacement (hd : ∀ x ∈ dst, may x) (hf : flags) : Footprint may flags mode dst handleAddDisplacement
  | alu8 (op : AluOp) (ha : op ≠ .cp → may (.r8 .a)) (hf : flags) : Footprint may flags mode dst (handleAlu8 op)
  | inc8 (hd : writesRegister mode = true → ∀ x ∈ dst, may x) (hf : flags) :
      Footprint may flags mode dst handleInc8
  | dec8 (hd : writesRegister mode = true → ∀ x ∈ dst, may x) (hf : flags) :
      Footprint may flags mode dst handleDec8
  | add16 (hd : ∀ x ∈ dst, may x) (hf : flags) : Footprint may flags mode dst handleAdd16
  | inc16 (hd : ∀ x ∈ dst, may x) : Footprint may flags mode dst handleInc16
  | dec16 (hd : ∀ x ∈ dst, may x) : Footprint may flags mode dst handleDec16
  | daa (ha : may (.r8 .a)) (hf : flags) : Footprint may flags mode dst handleDaa
  | cpl (ha : may (.r8 .a)) (hf : flags) : Footprint may flags mode dst handleCpl
  | scf (hf : flags) : Footprint may flags mode dst handleScf
  | ccf (hf : flags) : Footprint may flags mode dst handleCcf
  | nop : Footprint may flags mode dst handleNop
  | rotateA (op : ShiftOp) (ha : may (.r8 .a)) (hf : flags) : Footprint may flags mode dst (handleRotateA op)
  | shift (op : ShiftOp) (hd : writesRegister mode = true → ∀ x ∈ dst, may x) (hf : flags) :
      Footprint may flags mode dst (handleShift op)
  | bit (hf : flags) : Footprint may flags mode dst handleBit
  | res (hd : writesRegister mode = true → ∀ x ∈ dst, may x) : Footprint may flags mode dst handleRes
  | set (hd : writesRegister mode = true → ∀ x ∈ dst, may x) : Footprint may flags mode dst handleSet
  | jp (hpc : may (.r16 .pc)) : Footprint may flags mode dst handleJp
  | jr (hpc : may (.r16 .pc)) : Footprint may flags mode dst handleJr
  | call (hpc : may (.r16 .pc)) : Footprint may flags mode dst handleCall
  | ret (hpc : may (.r16 .pc)) (hsp : may (.r16 .sp)) : Footprint may flags mode dst handleRet
  | reti (hpc : may (.r16 .pc)) : Footprint may flags mode dst handleReti
  | rst (hpc : may (.r16 .pc)) : Footprint may flags mode dst handleRst
  | jpu (hpc : may (.r16 .pc)) : Footprint may flags mode dst handleJpu

section Handlers

variable {may : Register → Prop} {flags : Prop}

/-- `rb.Writes`, and of the DecodedInstruction only the result bytes are new. -/
def RegisterBank.Executes (may : Register → Prop) (flags : Prop) (rb : RegisterBank) (di : DecodedInstruction)
    (p : RegisterBank × DecodedInstruction) : Prop :=
  rb.Writes may flags p.1 ∧ ∃ x y, p.2 = { di with res1 := x, res2 := y }

theorem attempt_yields {α : Type} (rb : RegisterBank) (x : Option α) :
    Yields (fun e => e = rb) (fun v => x = some v) (rb.attempt x) := by
  cases x with
  | none => exact yields_error rfl
  | some v => exact yields_ok rfl

/-- A failed operation of the bank leaves it as it was (R21). -/
theorem attempt_writes {α : Type} (rb : RegisterBank) (x : Option α) :
    Yields (rb.Writes may flags) (fun _ => True) (rb.attempt x) :=
  (attempt_yields rb x).mono (by rintro _ rfl; exact .none) fun _ _ => trivial

theorem sourceValue_writes (rb : RegisterBank) (di : DecodedInstruction) :
    Yields (rb.Writes may flags) (fun _ => True) (sourceValue rb di) := by
  unfold sourceValue
  split
  case h_1 => exact attempt_writes rb _
  all_goals simp [Yields, RegisterBank.Writes.none]

theorem writeField_writes (rb : RegisterBank) {x : Option Register} (hx : ∀ y ∈ x, may y) (v : Byte) :
    Yields (rb.Writes may flags) (rb.Writes may flags) (rb.writeField x v) := by
  match x with
  | none | some (.r16 _) => exact yields_error .none
  | some (.r8 y) => exact yields_ok (.byte v .none (hx _ rfl))

theorem writePairField_writes (rb : RegisterBank) {x : Option Register} (hx : ∀ y ∈ x, may y) (v : Word) :
    Yields (rb.Writes may flags) (rb.Writes may flags) (rb.writePairField x v) := by
  match x with
  | none | some (.r8 _) => exact yields_error .none
  | some (.r16 y) => exact yields_ok (.pair v .none (hx _ rfl))

theorem putResult8_writes (rb : RegisterBank) {di : DecodedInstruction}
    (hd : writesRegister di.mode = true → ∀ x ∈ di.dst, may x) (v : Byte) :
    Yields (rb.Writes may flags) (rb.Executes may flags di) (putResult8 rb di v) := by
  unfold putResult8
  split
  · rename_i hw
    exact (writeField_writes rb (hd hw) v).map fun _ h => ⟨h, _, _, rfl⟩
  · exact yields_ok ⟨.none, _, _, rfl⟩

/-- Writes made before the rest of an Execute. -/
theorem Yields.after {rb rb' : RegisterBank} {di : DecodedInstruction}
    {x : BankResult (RegisterBank × DecodedInstruction)} (hw : rb.Writes may flags rb')
    (hx : Yields (rb'.Writes may flags) (rb'.Executes may flags di) x) :
    Yields (rb.Writes may flags) (rb.Executes may flags di) x :=
  hx.mono (fun _ => hw.trans) fun _ h => ⟨hw.trans h.1, h.2⟩

/-- An Execute that changes nothing of `di` gives it back. -/
theorem executes_self {rb rb' : RegisterBank} (h : rb.Writes may flags rb') (di : DecodedInstruction) :
    rb.Executes may flags di (rb', di) := ⟨h, _, _, rfl⟩

variable {di : DecodedInstruction} (rb : RegisterBank)

theorem executeLd8_writes (hd : writesRegister di.mode = true → ∀ x ∈ di.dst, may x) :
    Yields (rb.Writes may flags) (rb.Executes may flags di) (executeLd8 rb di) := by
  unfold executeLd8
  split
  · rename_i hw
    exact (sourceValue_writes rb di).bind fun v _ => (writeField_writes rb (hd hw) v).bind fun _ h =>
      yields_ok (executes_self h di)
  · split
    · exact yields_ok ⟨.none, _, _, rfl⟩
    · exact (attempt_writes rb _).bind fun _ _ => yields_ok ⟨.none, _, _, rfl⟩

theorem executeLdu_writes (hd : ∀ x ∈ di.dst, may x) :
    Yields (rb.Writes may flags) (rb.Executes may flags di) (executeLdu rb di) :=
  (writeField_writes rb hd di.op1).map fun _ h => executes_self h di

theorem executePairFromOperands_writes (hd : ∀ x ∈ di.dst, may x) :
    Yields (rb.Writes may flags) (rb.Executes may flags di) (executePairFromOperands rb di) :=
  (writePairField_writes rb hd di.immediate).map fun _ h => executes_self h di

theorem executeLdRegisterPair_writes (hd : ∀ x ∈ di.dst, may x) :
    Yields (rb.Writes may flags) (rb.Executes may flags di) (executeLdRegisterPair rb di) :=
  (attempt_writes rb _).bind fun v _ => (writePairField_writes rb hd v).bind fun _ h =>
    yields_ok (executes_self h di)

theorem executeSplitPair_writes :
    Yields (rb.Writes may flags) (rb.Executes may flags di) (executeSplitPair rb di) :=
  (attempt_writes rb _).bind fun _ _ => yields_ok ⟨.none, _, _, rfl⟩

theorem executeAddDisplacement_writes (hd : ∀ x ∈ di.dst, may x) (hf : flags) :
    Yields (rb.Writes may flags) (rb.Executes may flags di) (executeAddDisplacement rb di) :=
  (attempt_writes rb _).bind fun _ _ => .after (writes_writeFlags hf rb _ _ _ _)
    ((writePairField_writes _ hd _).bind fun _ h => yields_ok (executes_self h di))

theorem executeAlu8_writes {op : AluOp} (ha : op ≠ .cp → may (.r8 .a)) (hf : flags) :
    Yields (rb.Writes may flags) (rb.Executes may flags di) (executeAlu8 op rb di) := by
  refine (sourceValue_writes rb di).map fun v _ => executes_self ?_ di
  unfold applyAlu8
  dsimp only
  split
  · exact writes_writeFlags hf rb _ _ _ _
  · rename_i hop
    exact (writes_writeFlags hf rb _ _ _ _).byte _ (ha hop)

theorem executeInc8_writes (hd : writesRegister di.mode = true → ∀ x ∈ di.dst, may x) (hf : flags) :
    Yields (rb.Writes may flags) (rb.Executes may flags di) (executeInc8 rb di) :=
  (sourceValue_writes rb di).bind fun _ _ => .after (writes_writeZnh hf rb _ _ _) (putResult8_writes _ hd _)

theorem executeDec8_writes (hd : writesRegister di.mode = true → ∀ x ∈ di.dst, may x) (hf : flags) :
    Yields (rb.Writes may flags) (rb.Executes may flags di) (executeDec8 rb di) :=
  (sourceValue_writes rb di).bind fun _ _ => .after (writes_writeZnh hf rb _ _ _) (putResult8_writes _ hd _)

theorem executeAdd16_writes (hd : ∀ x ∈ di.dst, may x) (hf : flags) :
    Yields (rb.Writes may flags) (rb.Executes may flags di) (executeAdd16 rb di) :=
  (attempt_writes rb _).bind fun _ _ => (attempt_writes rb _).bind fun _ _ =>
    .after (writes_writeNhc hf rb _ _ _)
      ((writePairField_writes _ hd _).bind fun _ h => yields_ok (executes_self h di))

theorem executeInc16_writes (hd : ∀ x ∈ di.dst, may x) :
    Yields (rb.Writes may flags) (rb.Executes may flags di) (executeInc16 rb di) :=
  (attempt_writes rb _).bind fun _ _ => (writePairField_writes rb hd _).bind fun _ h =>
    yields_ok (executes_self h di)

theorem executeDec16_writes (hd : ∀ x ∈ di.dst, may x) :
    Yields (rb.Writes may flags) (rb.Executes may flags di) (executeDec16 rb di) :=
  (attempt_writes rb _).bind fun _ _ => (writePairField_writes rb hd _).bind fun _ h =>
    yields_ok (executes_self h di)

theorem applyDaa_writes (ha : may (.r8 .a)) (hf : flags) : rb.Writes may flags (applyDaa rb) :=
  (((RegisterBank.Writes.none.byte _ ha).flag .z _ hf).flag .h _ hf).flag .cy _ hf

theorem executeShift_writes {op : ShiftOp} (hd : writesRegister di.mode = true → ∀ x ∈ di.dst, may x)
    (hf : flags) : Yields (rb.Writes may flags) (rb.Executes may flags di) (executeShift op rb di) :=
  (sourceValue_writes rb di).bind fun _ _ => .after (writes_writeFlags hf rb _ _ _ _) (putResult8_writes _ hd _)

theorem executeBit_writes (hf : flags) :
    Yields (rb.Writes may flags) (rb.Executes may flags di) (executeBit rb di) :=
  (sourceValue_writes rb di).map fun _ _ => executes_self (writes_writeZnh hf rb _ _ _) di

theorem executeRes_writes (hd : writesRegister di.mode = true → ∀ x ∈ di.dst, may x) :
    Yields (rb.Writes may flags) (rb.Executes may flags di) (executeRes rb di) :=
  (sourceValue_writes rb di).bind fun _ _ => putResult8_writes rb hd _

theorem executeSet_writes (hd : writesRegister di.mode = true → ∀ x ∈ di.dst, may x) :
    Yields (rb.Writes may flags) (rb.Executes may flags di) (executeSet rb di) :=
  (sourceValue_writes rb di).bind fun _ _ => putResult8_writes rb hd _

/-- `rb.Executes`, with the failed condition told (R153). -/
def RegisterBank.Ends (may : Register → Prop) (flags : Prop) (rb : RegisterBank) (h : Handler)
    (di : DecodedInstruction) (r : RegisterBank × DecodedInstruction × Bool) : Prop :=
  rb.Executes may flags di (r.1, r.2.1) ∧ r.2.2 = h.aborts rb di

theorem unconditional_ends {f : RegisterBank → DecodedInstruction → BankResult (RegisterBank × DecodedInstruction)}
    (hx : Yields (rb.Writes may flags) (rb.Executes may flags di) (f rb di)) :
    Yields (rb.Writes may flags) (rb.Ends may flags (.unconditional f) di)
      ((Handler.unconditional f).result rb di) :=
  hx.map fun _ h => ⟨h, rfl⟩

/-- A handler whose condition fails does `no`, and otherwise `yes` (R152, R153). -/
theorem conditional_ends
    {f : RegisterBank → DecodedInstruction → BankResult (RegisterBank × DecodedInstruction × Bool)}
    {yes no : BankResult (RegisterBank × DecodedInstruction × Bool)}
    (hfx : f rb di = if conditionHolds rb di.extra then yes else no)
    (hyes : Yields (rb.Writes may flags) (fun r => rb.Executes may flags di (r.1, r.2.1) ∧ r.2.2 = false) yes)
    (hno : Yields (rb.Writes may flags) (fun r => rb.Executes may flags di (r.1, r.2.1) ∧ r.2.2 = true) no) :
    Yields (rb.Writes may flags) (rb.Ends may flags (.conditional f) di)
      ((Handler.conditional f).result rb di) := by
  show Yields _ _ (f rb di)
  rw [hfx]
  by_cases hc : conditionHolds rb di.extra = true
  · rw [if_pos hc]
    exact hyes.mono (fun _ h => h) fun _ h => ⟨h.1, by rw [h.2, Handler.aborts, hc]; rfl⟩
  · rw [if_neg hc]
    have hc := Bool.eq_false_of_not_eq_true hc
    exact hno.mono (fun _ h => h) fun _ h => ⟨h.1, by rw [h.2, Handler.aborts, hc]; rfl⟩

theorem jumpTarget_writes : Yields (rb.Writes may flags) (fun _ => True) (jumpTarget rb di) := by
  unfold jumpTarget
  split
  · exact attempt_writes rb _
  · exact yields_ok trivial

/-- Every handler writes what its footprint allows, and aborts exactly where its condition fails. -/
theorem Handler.Footprint.ends {h : Handler} (hk : h.Footprint may flags di.mode di.dst) :
    Yields (rb.Writes may flags) (rb.Ends may flags h di) (h.result rb di) := by
  have pcOnly (hpc : may (.r16 .pc)) (v : Word) : rb.Writes may flags (rb.set16 .pc v) :=
    RegisterBank.Writes.none.pair v hpc
  cases hk with
  | ld8 hd => exact unconditional_ends rb (executeLd8_writes rb hd)
  | ldu hd => exact unconditional_ends rb (executeLdu_writes rb hd)
  | ldImmediatePair hd => exact unconditional_ends rb (executePairFromOperands_writes rb hd)
  | pop hd => exact unconditional_ends rb (executePairFromOperands_writes rb hd)
  | ldRegisterPair hd => exact unconditional_ends rb (executeLdRegisterPair_writes rb hd)
  | splitPair => exact unconditional_ends rb (executeSplitPair_writes rb)
  | addDisplacement hd hf => exact unconditional_ends rb (executeAddDisplacement_writes rb hd hf)
  | alu8 op ha hf => exact unconditional_ends rb (executeAlu8_writes rb ha hf)
  | inc8 hd hf => exact unconditional_ends rb (executeInc8_writes rb hd hf)
  | dec8 hd hf => exact unconditional_ends rb (executeDec8_writes rb hd hf)
  | add16 hd hf => exact unconditional_ends rb (executeAdd16_writes rb hd hf)
  | inc16 hd => exact unconditional_ends rb (executeInc16_writes rb hd)
  | dec16 hd => exact unconditional_ends rb (executeDec16_writes rb hd)
  | daa ha hf => exact unconditional_ends rb (yields_ok (executes_self (applyDaa_writes rb ha hf) di))
  | cpl ha hf =>
    exact unconditional_ends rb (yields_ok (executes_self
      (((RegisterBank.Writes.none.byte _ ha).flag .n true hf).flag .h true hf) di))
  | scf hf => exact unconditional_ends rb (yields_ok (executes_self (writes_writeNhc hf rb _ _ _) di))
  | ccf hf => exact unconditional_ends rb (yields_ok (executes_self (writes_writeNhc hf rb _ _ _) di))
  | nop => exact unconditional_ends rb (yields_ok (executes_self .none di))
  | rotateA op ha hf =>
    exact unconditional_ends rb (yields_ok (executes_self
      ((RegisterBank.Writes.none.byte _ ha).trans (writes_writeFlags hf _ _ _ _ _)) di))
  | shift op hd hf => exact unconditional_ends rb (executeShift_writes rb hd hf)
  | bit hf => exact unconditional_ends rb (executeBit_writes rb hf)
  | res hd => exact unconditional_ends rb (executeRes_writes rb hd)
  | set hd => exact unconditional_ends rb (executeSet_writes rb hd)
  | jp hpc =>
    exact conditional_ends rb rfl ((jumpTarget_writes rb).map fun v _ => ⟨executes_self (pcOnly hpc v) di, rfl⟩)
      (yields_ok ⟨executes_self .none di, rfl⟩)
  | jr hpc =>
    exact conditional_ends rb rfl (yields_ok ⟨executes_self (pcOnly hpc _) di, rfl⟩)
      (yields_ok ⟨executes_self .none di, rfl⟩)
  | call hpc =>
    exact conditional_ends rb rfl (yields_ok ⟨⟨pcOnly hpc _, _, _, rfl⟩, rfl⟩)
      (yields_ok ⟨executes_self .none di, rfl⟩)
  | ret hpc hsp =>
    exact conditional_ends rb rfl (yields_ok ⟨executes_self (pcOnly hpc _) di, rfl⟩)
      (yields_ok ⟨executes_self (RegisterBank.Writes.none.pair _ hsp) di, rfl⟩)
  | reti hpc => exact unconditional_ends rb (yields_ok (executes_self (pcOnly hpc _) di))
  | rst hpc => exact unconditional_ends rb (yields_ok ⟨pcOnly hpc _, _, _, rfl⟩)
  | jpu hpc => exact unconditional_ends rb (yields_ok (executes_self (pcOnly hpc _) di))

end Handlers

end Sys2Proof.Machine
end

section
/-! SUPPORT. What a cycle can do to the state, whether it completes or faults (spec/40_pipeline.md R148, R160 to R171;
spec/60_exceptions.md R433): the routing is kept, the RegisterBank changes by the allowed writes, and the signals follow
the opcode identity. -/

namespace Sys2Proof.Machine

/-! ### What a step of a cycle does to the state -/

/-- The routing is kept and the RegisterBank changes by allowed writes only. -/
structure State.Frame (may : Register → Prop) (flags : Prop) (s t : State) : Prop where
  routing : s.SameRouting t
  regs : s.regs.Writes may flags t.regs

/-- What steps 3 and 5 do: memory accesses and steps of pairs. No flag and no signal changes. -/
structure State.Accesses (may : Register → Prop) (s t : State) : Prop where
  frame : s.Frame may False t
  sig : t.sig = s.sig

section Relations

variable {may may' : Register → Prop} {flags flags' : Prop} {s t u : State}

theorem State.Frame.trans (h : s.Frame may flags t) (k : t.Frame may flags u) : s.Frame may flags u :=
  ⟨h.routing.trans k.routing, h.regs.trans k.regs⟩

theorem State.Frame.mono (h : s.Frame may flags t) (hm : ∀ x, may x → may' x) (hf : flags → flags') :
    s.Frame may' flags' t :=
  ⟨h.routing, h.regs.mono hm hf⟩

theorem frame_withSig (s : State) (g : Signals) : s.Frame may flags (s.withSig g) :=
  ⟨sameRouting_withSig s g, .none⟩

theorem State.Accesses.refl (s : State) : s.Accesses may s := ⟨⟨.refl s, .none⟩, rfl⟩

theorem State.Accesses.trans (h : s.Accesses may t) (k : t.Accesses may u) : s.Accesses may u :=
  ⟨h.frame.trans k.frame, k.sig.trans h.sig⟩

theorem accesses_afterRead (s : State) (sc : SecurityLevel) (a : Word) : s.Accesses may (s.afterRead sc a) :=
  ⟨⟨sameRouting_afterRead s sc a, by rw [afterRead_regs]; exact .none⟩, afterRead_sig s sc a⟩

theorem accesses_afterWrite (s : State) (sc : SecurityLevel) (a : Word) (v : Byte) :
    s.Accesses may (s.afterWrite sc a v) :=
  ⟨⟨sameRouting_afterWrite s sc a v, by rw [afterWrite_regs]; exact .none⟩, afterWrite_sig s sc a v⟩

theorem accesses_withRegs {rb : RegisterBank} (h : s.regs.Writes may False rb) : s.Accesses may (s.withRegs rb) :=
  ⟨⟨sameRouting_withRegs s rb, h⟩, rfl⟩

/-- A computation over states, completed or faulted, does no more than accesses; `st` finds the state in its value. -/
def Accessing {α : Type} (may : Register → Prop) (s : State) (st : α → State) (x : Except Fault α) : Prop :=
  Yields (fun f => s.Accesses may f.left) (fun a => s.Accesses may (st a)) x

theorem Accessing.from {α : Type} {st : α → State} {x : Except Fault α} (hx : Accessing may t st x)
    (h : s.Accesses may t) : Accessing may s st x :=
  hx.mono (fun _ => h.trans) fun _ => h.trans

/-- Reading a register field of `di` changes nothing (R21). -/
theorem orBankError_attempt_accessing {α : Type} (s : State) (x : Option α) :
    Yields (fun f => s.Accesses may f.left) (fun v => x = some v) (orBankError (s.regs.attempt x) s) := by
  cases x with
  | none => exact yields_error (State.Accesses.refl s)
  | some v => exact yields_ok rfl

/-- The write of a pair that may be written. -/
theorem orBankError_writePairField_accessing (s : State) {x : Option Register} (hx : ∀ y ∈ x, may y) (v : Word) :
    Yields (fun f => s.Accesses may f.left) (s.regs.Writes may False)
      (orBankError (s.regs.writePairField x v) s) := by
  have hw := writePairField_writes (flags := False) s.regs hx v
  cases hf : s.regs.writePairField x v with
  | ok rb => rw [hf] at hw; exact yields_ok hw
  | error rb => rw [hf] at hw; exact yields_error (accesses_withRegs hw)

theorem memReadScope_accessing (sc : SecurityLevel) (a : Word) (s : State) :
    Accessing may s (fun p => p.2) (memReadScope sc a s) := by
  unfold memReadScope
  split
  · exact yields_ok (accesses_afterRead s sc a)
  · exact yields_error (State.Accesses.refl s)

theorem memWrite_accessing (a : Word) (v : Byte) (s : State) : Accessing may s id (memWrite a v s) := by
  unfold memWrite
  split
  · exact yields_ok (accesses_afterWrite s s.level a v)
  · exact yields_error (State.Accesses.refl s)

end Relations

/-! ### Steps 3 and 5 -/

/-- The registers that steps 3 and 5 write: a pair they step (R174), SP of a push (R167). -/
structure Traits.Within (may : Register → Prop) (src dst : Option Register) (t : Traits) : Prop where
  src : (t.incSrc || t.decSrc) = true → ∀ x ∈ src, may x
  dst : (t.incDst || t.decDst) = true → ∀ x ∈ dst, may x
  push : t.wb = .pairAtSP → may (.r16 .sp)

section Steps

variable {may : Register → Prop} {t : Traits} {di : DecodedInstruction}

theorem stepSrc_accessing (hs : (t.incSrc || t.decSrc) = true → ∀ x ∈ di.src, may x) (s : State) :
    Accessing may s id (stepSrc t di s) := by
  unfold stepSrc
  split
  · rename_i hstep
    exact (orBankError_attempt_accessing s _).bind fun _ _ =>
      (orBankError_writePairField_accessing s (hs hstep) _).bind fun _ h => yields_ok (accesses_withRegs h)
  · exact yields_ok (State.Accesses.refl s)

theorem stepDst_accessing (hd : (t.incDst || t.decDst) = true → ∀ x ∈ di.dst, may x) (s : State) :
    Accessing may s id (stepDst t di s) := by
  unfold stepDst
  split
  · rename_i hstep
    exact (orBankError_attempt_accessing s _).bind fun _ _ =>
      (orBankError_writePairField_accessing s (hd hstep) _).bind fun _ h => yields_ok (accesses_withRegs h)
  · exact yields_ok (State.Accesses.refl s)

/-- An operand read gives `di` with other operand bytes, after accesses. -/
def Acquiring (may : Register → Prop) (di : DecodedInstruction) (s : State)
    (x : Except Fault (DecodedInstruction × State)) : Prop :=
  Yields (fun f => s.Accesses may f.left)
    (fun p => (∃ a b c, p.1 = di.withOperands a b c) ∧ s.Accesses may p.2) x

theorem acquiring_self (di : DecodedInstruction) (s : State) : Acquiring may di s (.ok (di, s)) :=
  yields_ok ⟨⟨di.op1, di.op2, di.op3, rfl⟩, .refl s⟩

theorem acquireOp1_acquiring (hs : (t.incSrc || t.decSrc) = true → ∀ x ∈ di.src, may x) (s : State) :
    Acquiring may di s (acquireOp1 t di s) := by
  unfold acquireOp1
  cases t.op1 with
  | skip => exact acquiring_self di s
  | atPC => exact acquiring_self di s
  | implicitReg =>
    exact (orBankError_attempt_accessing s _).bind fun _ _ => (memReadScope_accessing _ _ s).bind fun p h =>
      yields_ok ⟨⟨p.1, di.op2, di.op3, rfl⟩, h⟩
  | atRegister =>
    exact (orBankError_attempt_accessing s _).bind fun _ _ => (memReadScope_accessing _ _ s).bind fun p h =>
      ((stepSrc_accessing hs p.2).from h).bind fun _ k => yields_ok ⟨⟨p.1, di.op2, di.op3, rfl⟩, k⟩

theorem acquireOp2_acquiring (hs : (t.incSrc || t.decSrc) = true → ∀ x ∈ di.src, may x) (s : State) :
    Acquiring may di s (acquireOp2 t di s) := by
  unfold acquireOp2
  cases t.op2 with
  | skip => exact acquiring_self di s
  | atPC => exact acquiring_self di s
  | atComposed =>
    exact (orBankError_attempt_accessing s _).bind fun _ _ => (memReadScope_accessing _ _ s).bind fun p h =>
      yields_ok ⟨⟨di.op1, p.1, di.op3, rfl⟩, h⟩
  | direct =>
    exact (orBankError_attempt_accessing s _).bind fun _ _ => (memReadScope_accessing _ _ s).bind fun p h =>
      ((stepSrc_accessing hs p.2).from h).bind fun _ k => yields_ok ⟨⟨di.op1, p.1, di.op3, rfl⟩, k⟩
  | implicitImm =>
    exact (memReadScope_accessing _ _ s).bind fun p h => yields_ok ⟨⟨di.op1, p.1, di.op3, rfl⟩, h⟩

theorem acquireOp3_acquiring (s : State) : Acquiring may di s (acquireOp3 t di s) := by
  unfold acquireOp3
  split
  · exact (memReadScope_accessing _ _ s).bind fun p h => yields_ok ⟨⟨di.op1, di.op2, p.1, rfl⟩, h⟩
  · exact acquiring_self di s

theorem Acquiring.bind {s : State} {x : Except Fault (DecodedInstruction × State)}
    {f : DecodedInstruction × State → Except Fault (DecodedInstruction × State)} (hx : Acquiring may di s x)
    (hf : ∀ a b c u, Acquiring may (di.withOperands a b c) u (f (di.withOperands a b c, u))) :
    Acquiring may di s (x >>= f) := by
  refine Yields.bind hx ?_
  rintro ⟨_, u⟩ ⟨⟨a, b, c, rfl⟩, h⟩
  refine (hf a b c u).mono (fun _ => h.trans) ?_
  rintro ⟨_, v⟩ ⟨⟨a', b', c', rfl⟩, k⟩
  exact ⟨⟨a', b', c', rfl⟩, h.trans k⟩

/-- Step 3 as a whole. -/
theorem acquire_acquiring (hs : (t.incSrc || t.decSrc) = true → ∀ x ∈ di.src, may x) (s : State) :
    Acquiring may di s (acquire t di s) := by
  refine (acquireOp1_acquiring hs s).bind fun a b c u => ?_
  refine (acquireOp2_acquiring (di := di.withOperands a b c) hs u).bind fun a b c v => ?_
  exact acquireOp3_acquiring v

theorem pushResult_accessing (hsp : may (.r16 .sp)) (s : State) : Accessing may s id (pushResult di s) :=
  (memWrite_accessing _ _ s).bind fun u h => ((memWrite_accessing _ _ u).from h).bind fun _ k =>
    yields_ok (k.trans (accesses_withRegs (.pair _ .none hsp)))

/-- Step 5 as a whole. -/
theorem writeBack_accessing (hd : (t.incDst || t.decDst) = true → ∀ x ∈ di.dst, may x)
    (hsp : t.wb = .pairAtSP → may (.r16 .sp)) (s : State) : Accessing may s id (writeBack t di s) := by
  unfold writeBack
  split
  · exact yields_ok (State.Accesses.refl s)
  cases hwb : t.wb with
  | skip => exact yields_ok (State.Accesses.refl s)
  | atOperandAddress => exact (orBankError_attempt_accessing s _).bind fun _ _ => memWrite_accessing _ _ s
  | atRegister =>
    exact (orBankError_attempt_accessing s _).bind fun _ _ => (memWrite_accessing _ _ s).bind fun u h =>
      (stepDst_accessing hd u).from h
  | atComposed => exact memWrite_accessing _ _ s
  | implicitReg => exact (orBankError_attempt_accessing s _).bind fun _ _ => memWrite_accessing _ _ s
  | implicitImm => exact memWrite_accessing _ _ s
  | pairAtSP => exact pushResult_accessing (hsp hwb) s
  | pairAtImm => exact (memWrite_accessing _ _ s).bind fun u h => (memWrite_accessing _ _ u).from h

end Steps

/-! ### Step 4 and the cycle -/

section Cycle

variable {may : Register → Prop} {flags : Prop} {h : Handler} {di : DecodedInstruction}

/-- Step 4 by the result of the handler (R160 to R162). -/
theorem executeStep_of_ok {rb : RegisterBank} {di' : DecodedInstruction} {failed : Bool} {s : State}
    (hr : h.result s.regs di = .ok (rb, di', failed)) :
    executeStep h di s = .ok (di', (s.withRegs rb).withSig (s.sig.ended di'.opcode failed)) := by
  cases h with
  | unconditional f =>
    cases hf : f s.regs di with
    | error _ => rw [Handler.result, hf] at hr; cases hr
    | ok p =>
      rw [Handler.result, hf] at hr
      cases hr
      exact executeStep_unconditional hf
  | conditional f =>
    cases failed with
    | false => exact executeStep_taken hr
    | true => exact executeStep_aborted hr

theorem executeStep_of_error {rb : RegisterBank} {s : State} (hr : h.result s.regs di = .error rb) :
    executeStep h di s = .error (.registerBankError ((s.withRegs rb).withSig s.sig.resetTransient)) := by
  cases h with
  | unconditional f =>
    cases hf : f s.regs di with
    | ok _ => rw [Handler.result, hf] at hr; cases hr
    | error _ =>
      rw [Handler.result, hf] at hr
      cases hr
      exact executeStep_fault hf
  | conditional f => exact executeStep_conditional_fault hr

/-- Step 4 writes what the handler may; the signals follow the opcode identity and the condition. -/
theorem executeStep_frame (hk : h.Footprint may flags di.mode di.dst) (s : State) :
    Yields (fun f => s.Frame may flags f.left)
      (fun p => (∃ x y, p.1 = { di with res1 := x, res2 := y }) ∧ s.Frame may flags p.2
        ∧ p.2.sig = s.sig.ended di.opcode (h.aborts s.regs di))
      (executeStep h di s) := by
  have hr := hk.ends s.regs (di := di)
  cases hx : h.result s.regs di with
  | error rb =>
    rw [hx] at hr
    rw [executeStep_of_error hx]
    exact yields_error ⟨(sameRouting_withRegs s rb).trans (sameRouting_withSig _ _), hr⟩
  | ok r =>
    obtain ⟨rb, di', failed⟩ := r
    rw [hx] at hr
    obtain ⟨⟨hw, x, y, rfl⟩, rfl⟩ := hr
    rw [executeStep_of_ok hx]
    exact yields_ok ⟨⟨x, y, rfl⟩, ⟨(sameRouting_withRegs s rb).trans (sameRouting_withSig _ _), hw⟩, rfl⟩

/-- A cycle, completed or faulted, keeps the routing and writes what its instruction may. The condition of a completed
one was tested in the RegisterBank as step 3 left it, which may have stepped the source pair. -/
theorem runSteps_frame (hk : h.Footprint may flags di.mode di.dst)
    (ht : ∀ t, traitsOf di.mode = some t → t.Within may di.src di.dst) (s : State) :
    Yields (fun f => s.Frame may flags f.left)
      (fun u => s.Frame may flags u ∧ ∃ rb, s.regs.Writes (fun x => x ∈ di.src) False rb
        ∧ u.sig = (s.withUmsor di.requestsUserSource).sig.ended di.opcode (h.aborts rb di))
      (runSteps h di s) := by
  unfold runSteps
  obtain ⟨t, htr⟩ := traitsOf_total di.mode
  simp only [htr]
  obtain ⟨hsrc, hdst, hsp⟩ := ht t htr
  have hs : s.Frame may flags (s.withUmsor di.requestsUserSource) := frame_withSig s _
  have whole {u v : State} {may' : Register → Prop} (hm : ∀ x, may' x → may x) (ha : u.Accesses may' v) :
      u.Frame may flags v := ha.frame.mono hm False.elim
  refine Yields.bind ((acquire_acquiring (may := fun x => x ∈ di.src ∧ may x)
    (fun hstep x hx => ⟨hx, hsrc hstep x hx⟩) _).mono
      (fun _ ha => hs.trans (whole (fun _ hx => hx.2) ha)) fun _ ha => ha) ?_
  rintro ⟨_, s₁⟩ ⟨⟨a, b, c, rfl⟩, ha⟩
  have h₁ := hs.trans (whole (fun _ hx => hx.2) ha)
  refine Yields.bind ((executeStep_frame (di := di.withOperands a b c) hk s₁).mono
    (fun _ he => h₁.trans he) fun _ he => he) ?_
  rintro ⟨_, s₂⟩ ⟨⟨x, y, rfl⟩, he, hsig⟩
  have h₂ := h₁.trans he
  refine (writeBack_accessing (may := may) (t := t)
    (di := { di.withOperands a b c with res1 := x, res2 := y }) hdst hsp s₂).mono
      (fun _ hw => h₂.trans (whole (fun _ hx => hx) hw)) fun u hw => ⟨h₂.trans (whole (fun _ hx => hx) hw), ?_⟩
  exact ⟨s₁.regs, ha.frame.regs.mono (fun _ hx => hx.1) id, (hw.sig.trans hsig).trans (by rw [ha.sig]; rfl)⟩

end Cycle

end Sys2Proof.Machine
end

section
/-! SUPPORT. The frame and the signals of every instruction: its handler and its mode write no more than
`writtenRegisters`, F whole only by POP AF, and its identity decides the signals. -/

namespace Sys2Proof.Machine

/-! ### What an instruction may write -/

/-- The instruction may write the register whole: it is one of its written registers, and where the instruction has an
encoding an 8-bit register with a code (never F, IR, PIR or R, R38), AF only for POP AF. -/
def writesWhole (i : Instr) (x : Register) : Prop :=
  x ∈ writtenRegisters i ∧ (i.wellFormed = true →
    match x with
    | .r8 r => r.hasCode = true
    | .r16 p => p = .af → i = .popQq .af)

theorem ne_af_of_hasPairCode {p : Reg16} (h : p.hasPairCode = true) : p ≠ .af := by
  rintro rfl; cases h

/-- Every instruction's handler writes inside what the instruction may write. The handler's name picks the rule of its
footprint, so nothing is unfolded to find it. -/
theorem decodedOf_footprint (i : Instr) :
    (decodedOf i).handler.Footprint (writesWhole i) (.r8 .f ∈ writtenRegisters i) (decodedOf i).di.mode
      (decodedOf i).di.dst := by
  rcases hd : decodedOf i with ⟨h, di⟩
  cases i
  all_goals
    cases hd
    with_reducible constructor
    all_goals
      dsimp only [writesWhole, writtenRegisters, Instr.wellFormed]
      simp +contextual [Reg8.hasCode, writesRegister, ne_af_of_hasPairCode]

/-- The modes that step a pair or push (R139). -/
theorem mode_of_steps {m : AddressingMode} {t : Traits} (ht : traitsOf m = some t) :
    ((t.incSrc || t.decSrc) = true → m = .registerIndirectSourceIncrement
        ∨ m = .registerIndirectSourceDecrement ∨ m = .registerIndirectSourcePair)
      ∧ ((t.incDst || t.decDst) = true → m = .registerIndirectDestinationIncrement
        ∨ m = .registerIndirectDestinationDecrement)
      ∧ (t.wb = .pairAtSP → m = .registerIndirectDestinationPair ∨ m = .subRoutineCall) := by
  cases m <;> cases ht <;> simp

/-- A stepped pair and the SP of a push are written registers of the instruction. -/
theorem decodedOf_steps (i : Instr) :
    ((decodedOf i).di.mode = .registerIndirectSourceIncrement
        ∨ (decodedOf i).di.mode = .registerIndirectSourceDecrement
        ∨ (decodedOf i).di.mode = .registerIndirectSourcePair → ∀ x ∈ (decodedOf i).di.src, writesWhole i x)
      ∧ ((decodedOf i).di.mode = .registerIndirectDestinationIncrement
        ∨ (decodedOf i).di.mode = .registerIndirectDestinationDecrement →
          ∀ x ∈ (decodedOf i).di.dst, writesWhole i x)
      ∧ ((decodedOf i).di.mode = .registerIndirectDestinationPair
        ∨ (decodedOf i).di.mode = .subRoutineCall → writesWhole i (.r16 .sp)) := by
  rcases hd : decodedOf i with ⟨h, di⟩
  cases i
  all_goals
    cases hd
    simp only [reduceCtorEq, or_false, or_true, false_imp_iff, true_and, and_true, forall_true_left]
  all_goals simp [writesWhole, writtenRegisters]

/-- Steps 3 and 5 stay inside what the instruction may write. -/
theorem decodedOf_within (i : Instr) (t : Traits) (ht : traitsOf (decodedOf i).di.mode = some t) :
    t.Within (writesWhole i) (decodedOf i).di.src (decodedOf i).di.dst := by
  obtain ⟨hsrc, hdst, hpush⟩ := mode_of_steps ht
  obtain ⟨ksrc, kdst, kpush⟩ := decodedOf_steps i
  exact ⟨fun h => ksrc (hsrc h), fun h => kdst (hdst h), fun h => kpush (hpush h)⟩

/-- No cell without a register code but F is ever written by an instruction with an encoding (R38). -/
theorem writesWhole_notMem_cellsOf {i : Instr} {x : Register} (hx : writesWhole i x)
    (hw : i.wellFormed = true) {y : Reg8} (hy : y.hasCode = false) (hf : y = .f → i ≠ .popQq .af) :
    Register.r8 y ∉ cellsOf x := by
  obtain ⟨-, hx⟩ := hx
  have hx := hx hw
  cases x with
  | r8 r =>
    intro hm
    cases List.mem_singleton.1 hm
    simp [hy] at hx
  | r16 p =>
    revert hx hy hf
    cases p <;> cases y <;> simp [cellsOf, Reg8.hasCode]

/-! ### What an instruction does -/

theorem exec_eq_finish (i : Instr) (s : State) :
    exec i s = finish (runSteps (decodedOf i).handler (decodedOf i).di s) := exec_eq_run i s

/-- The instruction's condition fails on that F (R153, R350). -/
def conditionFails (i : Instr) (f : Byte) : Bool := (conditionOf i).any fun cc => !condHolds cc f

theorem conditionFails_iff {i : Instr} {f : Byte} :
    conditionFails i f = true ↔ ∃ cc, conditionOf i = some cc ∧ condHolds cc f = false := by
  simp [conditionFails, Option.any_eq_true]

/-- Only the four conditional instructions can abort, on their condition. -/
theorem decodedOf_aborts (i : Instr) (rb : RegisterBank) :
    (decodedOf i).handler.aborts rb (decodedOf i).di = conditionFails i rb.f := by
  cases i
  case jrCc cc _ => exact congrArg (!·) (conditionHolds_code rb cc)
  case jpCc cc _ => exact congrArg (!·) (conditionHolds_code rb cc)
  case callCc cc _ => exact congrArg (!·) (conditionHolds_code rb cc)
  case retCc cc => exact congrArg (!·) (conditionHolds_code rb cc)
  all_goals rfl

/-- A conditional instruction's source pair is SP, or it has none: the step of it leaves F. -/
theorem conditional_source {i : Instr} {cc : Cond} (hc : conditionOf i = some cc) {x : Register}
    (hx : x ∈ (decodedOf i).di.src) : Register.r8 .f ∉ cellsOf x := by
  cases i <;> cases hc <;> cases hx
  decide

/-- Writes of the source registers leave the outcome of the condition. -/
theorem conditionFails_of_writes {i : Instr} {rb rb' : RegisterBank}
    (h : rb.Writes (fun x => x ∈ (decodedOf i).di.src) False rb') :
    conditionFails i rb'.f = conditionFails i rb.f := by
  unfold conditionFails
  cases hc : conditionOf i with
  | none => rfl
  | some cc =>
    have hf : rb'.get8 .f = rb.get8 .f := h.get8_eq (fun x hx => conditional_source hc hx) fun _ => not_false
    rw [show rb'.f = rb.f from hf]

/-- Everything said of an instruction's cycle, completed or faulted. -/
theorem exec_frame (i : Instr) (s : State) :
    Yields (fun f => s.Frame (writesWhole i) (.r8 .f ∈ writtenRegisters i) f.left)
      (fun t => s.Frame (writesWhole i) (.r8 .f ∈ writtenRegisters i) t
        ∧ t.sig = (s.withUmsor (decodedOf i).di.requestsUserSource).sig.ended (decodedOf i).di.opcode
            (conditionFails i s.regs.f))
      (runSteps (decodedOf i).handler (decodedOf i).di s) := by
  refine (runSteps_frame (decodedOf_footprint i) (decodedOf_within i) s).mono (fun _ h => h) ?_
  rintro t ⟨hframe, rb, hw, hsig⟩
  rw [decodedOf_aborts, conditionFails_of_writes hw] at hsig
  exact ⟨hframe, hsig⟩

theorem exec_next_frame {i : Instr} {s t : State} (h : exec i s = .next t) :
    s.Frame (writesWhole i) (.r8 .f ∈ writtenRegisters i) t :=
  ((exec_frame i s).of_next ((exec_eq_finish i s).symm.trans h)).1

theorem exec_fault_frame {i : Instr} {s : State} {f : Fault} (h : exec i s = .fault f) :
    s.Frame (writesWhole i) (.r8 .f ∈ writtenRegisters i) f.left :=
  (exec_frame i s).of_fault ((exec_eq_finish i s).symm.trans h)

theorem exec_next_sig {i : Instr} {s t : State} (h : exec i s = .next t) :
    t.sig = (s.withUmsor (decodedOf i).di.requestsUserSource).sig.ended (decodedOf i).di.opcode
      (conditionFails i s.regs.f) :=
  ((exec_frame i s).of_next ((exec_eq_finish i s).symm.trans h)).2

/-! ### The statements about registers -/

/-- Settles O24: a completed and a faulted cycle have one frame, and IR, PIR and R have no register code. -/
theorem execKeepsLevelAndRouting : Obligations.ExecKeepsLevelAndRouting := by
  unfold Obligations.ExecKeepsLevelAndRouting
  intro i s t hw h
  have hframe : s.Frame (writesWhole i) (.r8 .f ∈ writtenRegisters i) t := by
    rcases h with h | ⟨f, h, rfl⟩
    · exact exec_next_frame h
    · exact exec_fault_frame h
  have keeps (y : Reg8) (hy : y.hasCode = false) (hf : y ≠ .f) : t.regs.get8 y = s.regs.get8 y :=
    hframe.regs.get8_eq (fun _ hx => writesWhole_notMem_cellsOf hx hw hy fun h => absurd h hf) fun h => absurd h hf
  exact ⟨hframe.routing, keeps .ir rfl (by decide), keeps .pir rfl (by decide), keeps .regR rfl (by decide)⟩

/-- Settles O25: the writes of a cycle are to the written registers, and a flag write is a write of F. -/
theorem registerFrame : Obligations.RegisterFrame := by
  unfold Obligations.RegisterFrame
  intro i s t h cells
  have hregs := (exec_next_frame h).regs
  have hm {c : Register} (hc : c ∉ cells) (x : Register) (hx : writesWhole i x) : c ∉ cellsOf x :=
    fun hcx => hc (List.mem_flatMap.2 ⟨x, hx.1, hcx⟩)
  refine ⟨fun x hx => hregs.get8_eq (hm hx) ?_, fun hc => hregs.get16_eq (y := .pc) rfl (hm hc),
    fun hc => hregs.get16_eq (y := .sp) rfl (hm hc), fun hc => hregs.get16_eq (y := .ix) rfl (hm hc),
    fun hc => hregs.get16_eq (y := .iy) rfl (hm hc)⟩
  rintro rfl hf
  exact hx (List.mem_flatMap.2 ⟨.r8 .f, hf, List.mem_singleton_self _⟩)

/-- Settles O27: F is written whole by POP AF only, and a flag write leaves its low bits. -/
theorem lowFlagBitsKept : Obligations.LowFlagBitsKept := by
  unfold Obligations.LowFlagBitsKept
  intro i s t hw hpop h
  exact (exec_next_frame h).regs.lowFlags_eq fun x hx => writesWhole_notMem_cellsOf hx hw rfl fun _ => hpop

/-! ### The statement about the signals -/

/-- What each identity raises (R162). -/
theorem derive_eq (g : Signals) (o : Opcode) :
    g.derive o = { g with
      cis := o == .reti || g.cis
      halt := o == .halt || g.halt
      stop := o == .stop || g.stop
      ime := if o = .ei then true else if o = .di then false else g.ime
      umr := o == .jpu || g.umr } := by
  cases o <;> rfl

/-- The signals of an instruction that did not abort, by its identity; of one that did, by the failed condition. -/
theorem ended_eq (g : Signals) (o : Opcode) (failed : Bool) :
    g.ended o failed =
      { cis := !failed && o == .reti
        halt := !failed && o == .halt
        stop := !failed && o == .stop
        ime := if failed then g.ime else if o = .ei then true else if o = .di then false else g.ime
        aborted := failed
        umr := !failed && o == .jpu
        umsor := g.umsor } := by
  cases failed <;> simp [Signals.ended, derive_eq, Signals.resetTransient]

/-- An instruction whose condition fails is a jump, a return or a call. -/
theorem opcode_of_conditionFails {i : Instr} {f : Byte} (h : conditionFails i f = true) :
    (decodedOf i).di.opcode = .jr ∨ (decodedOf i).di.opcode = .ret ∨ (decodedOf i).di.opcode = .jp
      ∨ (decodedOf i).di.opcode = .call := by
  obtain ⟨cc, hc, -⟩ := conditionFails_iff.1 h
  cases i <;> cases hc
  exacts [.inl rfl, .inr (.inl rfl), .inr (.inr (.inl rfl)), .inr (.inr (.inr rfl))]

/-- Which identity each instruction has, of those that raise a signal, and which request the source of User (R135). -/
theorem decodedOf_opcode (i : Instr) :
    ((decodedOf i).di.opcode = .halt ↔ i = .halt) ∧ ((decodedOf i).di.opcode = .stop ↔ i = .stop)
    ∧ ((decodedOf i).di.opcode = .reti ↔ i = .reti) ∧ ((decodedOf i).di.opcode = .jpu ↔ ∃ nn, i = .jpuNn nn)
    ∧ ((decodedOf i).di.opcode = .ei ↔ i = .ei) ∧ ((decodedOf i).di.opcode = .di ↔ i = .di)
    ∧ ((decodedOf i).di.requestsUserSource = true ↔ (∃ r, i = .lduRIndHl r) ∨ i = .lduAIndBc ∨ i = .lduAIndDe
        ∨ i = .lduAIndHlInc ∨ i = .lduAIndHlDec) := by
  rcases hd : decodedOf i with ⟨h, di⟩
  cases i
  all_goals
    cases hd
    simp [DecodedInstruction.requestsUserSource, isRegisterIndirectSource]

/-- Settles O23: the identity decides every signal but `aborted`, and where the condition fails it raises none. -/
theorem signalsFollowTheOpcode : Obligations.SignalsFollowTheOpcode := by
  unfold Obligations.SignalsFollowTheOpcode
  intro i s t h
  obtain ⟨hhalt, hstop, hreti, hjpu, hei, hdi, hldu⟩ := decodedOf_opcode i
  rw [exec_next_sig h, ended_eq]
  simp only [← hhalt, ← hstop, ← hreti, ← hjpu, ← hei, ← hdi, ← hldu, ← conditionFails_iff]
  cases hc : conditionFails i s.regs.f with
  | false => simp
  | true =>
    rcases opcode_of_conditionFails hc with ho | ho | ho | ho <;> simp [ho]

end Sys2Proof.Machine
end

section
/-! SUPPORT. The instructions that read two bytes at SP and step it twice (spec/40_pipeline.md R143, R144, R174),
whatever their handler: where they fault, and what they complete with. -/

namespace Sys2Proof.Machine

@[simp] theorem afterRead_withUmsor (s : State) (x : Bool) (sc : SecurityLevel) (a : Word) :
    (s.withUmsor x).afterRead sc a = (s.afterRead sc a).withUmsor x := by
  unfold State.withUmsor
  rw [afterRead_withSig, afterRead_sig]

/-- The two reads of a pop, from the decode signal on. -/
theorem acquire_pop_withUmsor {di : DecodedInstruction} (hp : di.src = some (.r16 .sp)) {s : State}
    (ha : s.accessible s.level s.regs.sp = true) (hb : s.accessible s.level (s.regs.sp + 1) = true) :
    acquire { op1 := .atRegister, op2 := .direct, incSrc := true } di (s.withUmsor false)
      = .ok ({ di with
            op1 := s.readValue s.level s.regs.sp
            op2 := (s.afterRead s.level s.regs.sp).readValue s.level (s.regs.sp + 1) },
          (((s.afterRead s.level s.regs.sp).afterRead s.level (s.regs.sp + 1)).withRegs
            { s.regs with sp := s.regs.sp + 2 }).withUmsor false) := by
  have hsp : s.regs.sp + 1 + 1 = s.regs.sp + 2 := by rw [BitVec.add_assoc]; rfl
  have hacq := acquire_pop hp (s := s.withUmsor false) rfl ha hb
  simp only [withUmsor_level, withUmsor_regs, afterRead_withUmsor, readValue_withUmsor, hsp] at hacq
  exact hacq

/-- The second read of a pop where nothing is mapped: SP has been stepped once (R433, R491). -/
theorem acquire_pop_fault_second {di : DecodedInstruction} (hp : di.src = some (.r16 .sp)) {s : State}
    (hu : s.sig.umsor = false) (ha : s.accessible s.level s.regs.sp = true)
    (hb : s.accessible s.level (s.regs.sp + 1) = false) :
    acquire { op1 := .atRegister, op2 := .direct, incSrc := true } di s
      = .error (.memoryUnmapped (s.regs.sp + 1)
          ((s.afterRead s.level s.regs.sp).withRegs { s.regs with sp := s.regs.sp + 1 })) := by
  unfold acquire acquireOp1 acquireOp2
  have hb' : ((s.afterRead s.level s.regs.sp).withRegs (s.regs.set16 .sp (s.regs.sp + 1))).accessible
      s.level (s.regs.sp + 1) = false := by
    rw [accessible_withRegs, accessible_afterRead, hb]
  simp only [hp, hu, sourceScope, memReadScope_ok ha, stepSrc, readPairField_r16, orBankError_ok, ok_bind,
    error_bind, get16_sp, afterRead_regs, afterRead_level, afterRead_sig, withRegs_regs, withRegs_level,
    withRegs_sig, writePairField_r16, if_true, if_false, Bool.or_false, Bool.false_eq_true, set16_sp_sp,
    memReadScope_fault hb']
  rfl

/-- A cycle in mode RegisterIndirectSourcePair over SP that is no LDU: `fin` is what the handler makes of the bank with
SP past the pair, and `sig` what step 4 makes of the signals. -/
theorem readsStack_of_cycle {i : Instr} {h : Handler} {di : DecodedInstruction}
    {fin : RegisterBank → Word → RegisterBank} {sig : RegisterBank → Signals → Signals}
    (hi : ∀ s, exec i s = cycle h di s) (hm : di.mode = .registerIndirectSourcePair)
    (hp : di.src = some (.r16 .sp)) (hu : di.requestsUserSource = false)
    (hr : ∀ (rb : RegisterBank) (low high : Byte), ∃ di' failed,
      h.result { rb with sp := rb.sp + 2 } { di with op1 := low, op2 := high }
          = .ok (fin rb (high ++ low), di', failed)
        ∧ ∀ g : Signals, ({ g with umsor := false } : Signals).ended di'.opcode failed = sig rb (g.quiet false)) :
    ReadsStack i fin sig := by
  have ht : traitsOf di.mode = some { op1 := .atRegister, op2 := .direct, incSrc := true } := by
    rw [hm, traitsOf_registerIndirectSourcePair]
  intro s
  refine ⟨fun ha hb => ?_, fun ha => ?_, fun ha hb => ?_⟩
  · obtain ⟨di', failed, hok, hsig⟩ := hr s.regs (s.readValue s.level s.regs.sp)
      ((s.afterRead s.level s.regs.sp).readValue s.level (s.regs.sp + 1))
    rw [hi, cycle_next ht (by rw [hu]; exact acquire_pop_withUmsor hp ha hb) (executeStep_of_ok hok)
      (writeBack_skip rfl _ _)]
    refine congrArg (fun g => Host.Outcome.next (State.withSig _ g)) ?_
    simp only [withUmsor_sig, withRegs_sig, afterRead_sig, hsig]
  · rw [hi]
    refine cycle_fault_acquire ht ?_
    rw [hu]
    exact acquire_atRegister_fault rfl hp ha
  · rw [hi]
    refine cycle_fault_acquire ht ?_
    rw [hu, acquire_pop_fault_second hp (s := s.withUmsor false) rfl ha hb]
    simp only [withUmsor_level, withUmsor_regs, afterRead_withUmsor]
    rfl

/-- A pop loads the pair with the two bytes, whatever the pair. -/
theorem readsStack_of_pop {i : Instr} {q : Reg16}
    (hi : ∀ s, exec i s = cycle handlePop
      { opcode := .pop, mode := .registerIndirectSourcePair, src := some (.r16 .sp), dst := some (.r16 q) } s) :
    ReadsStack i (fun rb v => ({ rb with sp := rb.sp + 2 }).set16 q v) fun _ g => g :=
  readsStack_of_cycle hi rfl rfl rfl fun _ _ _ => ⟨_, false, rfl, fun _ => rfl⟩

/-- Settles O39: the three pops are one cycle, over different pairs. -/
theorem pairPops : Obligations.PairPops := by
  unfold Obligations.PairPops
  exact ⟨fun _ => readsStack_of_pop fun _ => rfl, readsStack_of_pop (q := .ix) fun _ => rfl,
    readsStack_of_pop (q := .iy) fun _ => rfl⟩

end Sys2Proof.Machine
end

section
/-! SUPPORT. What stands at an address (spec/20_memory.md R62, R69, R71 to R75): registrations that may stand together
are never both visible, so the first visible one is the only one, and every access resolves to it. -/

namespace Sys2Proof.Machine

/-! ### Visibility -/

theorem Privilege.visibleIn_iff {p : Privilege} {sc : SecurityLevel} :
    p.visibleIn sc = true ↔ p = .both ∨ (p = .system ∧ sc = .system) ∨ (p = .user ∧ sc = .user) := by
  cases p <;> cases sc <;> decide

/-- Two tags that one scope sees may not stand over one address (R62, R69). -/
theorem tagsClash_of_visibleIn {p q : Privilege} {sc : SecurityLevel} (hp : p.visibleIn sc = true)
    (hq : q.visibleIn sc = true) : tagsClash p q = true := by
  revert hp hq
  cases p <;> cases q <;> cases sc <;> decide

theorem MappedRegister.standsAt_iff {g : MappedRegister} {sc : SecurityLevel} {a : Word} :
    g.standsAt sc a = true ↔ g.tag.visibleIn sc = true ∧ g.address = a := by
  simp [MappedRegister.standsAt]

theorem Resource.covers_iff {r : Resource} {sc : SecurityLevel} {a : Word} :
    r.covers sc a = true ↔ r.tag.visibleIn sc = true ∧ r.first.toNat ≤ a.toNat ∧ a.toNat ≤ r.last.toNat := by
  simp [Resource.covers, Resource.contains]

theorem rangesMeet_of_mem {first last first' last' a : Word} (h : first.toNat ≤ a.toNat ∧ a.toNat ≤ last.toNat)
    (h' : first'.toNat ≤ a.toNat ∧ a.toNat ≤ last'.toNat) : rangesMeet first last first' last' = true := by
  obtain ⟨hf, hl⟩ := h
  obtain ⟨hf', hl'⟩ := h'
  simp only [rangesMeet, Bool.and_eq_true, decide_eq_true_eq]
  omega

theorem Resource.not_apart_of_covers {q r : Resource} {sc : SecurityLevel} {a : Word}
    (hq : q.covers sc a = true) (hr : r.covers sc a = true) : ¬q.apart r := by
  obtain ⟨hqt, hqa⟩ := Resource.covers_iff.1 hq
  obtain ⟨hrt, hra⟩ := Resource.covers_iff.1 hr
  rintro ⟨h, -⟩
  simp [Resource.conflicts, rangesMeet_of_mem hra hqa, tagsClash_of_visibleIn hrt hqt] at h

theorem MappedRegister.not_apart_of_standsAt {g h : MappedRegister} {sc : SecurityLevel} {a : Word}
    (hg : g.standsAt sc a = true) (hh : h.standsAt sc a = true) : ¬g.apart h := by
  obtain ⟨hgt, hga⟩ := MappedRegister.standsAt_iff.1 hg
  obtain ⟨hht, hha⟩ := MappedRegister.standsAt_iff.1 hh
  intro hc
  simp [MappedRegister.apart, MappedRegister.conflicts, hga, hha, tagsClash_of_visibleIn hht hgt] at hc

/-! ### At most one is visible -/

/-- Where no two members with the property may stand together, the first one found is the only one. -/
theorem find?_eq_some_of_pairwise {α : Type} {R : α → α → Prop} {p : α → Bool} {l : List α}
    (hl : l.Pairwise R) (hp : ∀ x y, p x = true → p y = true → ¬R x y) {x : α} (hx : x ∈ l)
    (hpx : p x = true) : l.find? p = some x := by
  induction l with
  | nil => cases hx
  | cons y l ih =>
    obtain ⟨hy, hl⟩ := List.pairwise_cons.1 hl
    rcases List.mem_cons.1 hx with rfl | hx
    · exact List.find?_cons_of_pos hpx
    · have hpy : ¬p y = true := fun hpy => hp y x hpy hpx (hy x hx)
      rw [List.find?_cons_of_neg hpy, ih hl hx]

theorem length_filter_le_one_of_pairwise {α : Type} {R : α → α → Prop} {p : α → Bool} {l : List α}
    (hl : l.Pairwise R) (hp : ∀ x y, p x = true → p y = true → ¬R x y) : (l.filter p).length ≤ 1 := by
  have hf := hl.filter p
  match h : l.filter p with
  | [] | [_] => simp
  | x :: y :: _ =>
    have hx : p x = true := List.of_mem_filter (h ▸ List.mem_cons_self)
    have hy : p y = true := List.of_mem_filter (h ▸ List.mem_cons_of_mem _ List.mem_cons_self)
    rw [h] at hf
    exact absurd ((List.pairwise_cons.1 hf).1 y List.mem_cons_self) (hp x y hx hy)

section Resolution

variable {s : State} {sc : SecurityLevel} {a : Word} (hw : s.wf)

include hw

theorem State.find?_standsAt {g : MappedRegister} (hg : g ∈ s.mapped) (hs : g.standsAt sc a = true) :
    s.mapped.find? (fun g => g.standsAt sc a) = some g := by
  obtain ⟨-, -, -, hmapped⟩ := hw
  exact find?_eq_some_of_pairwise hmapped (fun _ _ => MappedRegister.not_apart_of_standsAt) hg hs

theorem State.resourceAt_eq_some {r : Resource} (hr : r ∈ s.resources) (hc : r.covers sc a = true) :
    s.resourceAt sc a = some r := by
  obtain ⟨-, -, hresources, -⟩ := hw
  exact find?_eq_some_of_pairwise hresources (fun _ _ => Resource.not_apart_of_covers) hr hc

/-- The backing resource of a registration is there, of the registered size (R67, R68). -/
theorem State.backing_of_mem {r : Resource} (hr : r ∈ s.resources) :
    ∃ m, s.backings[r.backing]? = some m ∧ m.size = r.size := by
  obtain ⟨-, hresource, -, -⟩ := hw
  obtain ⟨-, hsize, -⟩ := hresource r hr
  exact Option.map_eq_some_iff.1 hsize

/-- A visible mapped register answers, resources apart (R71, R74). -/
theorem State.route_device {g : MappedRegister} (hg : g ∈ s.mapped) (hs : g.standsAt sc a = true) :
    s.route sc a = .device g.device := by
  unfold State.route; rw [State.find?_standsAt hw hg hs]

/-- Else the visible resource answers. -/
theorem State.route_eq_resource (hn : ∀ g ∈ s.mapped, ¬g.standsAt sc a = true) {r : Resource}
    (hr : r ∈ s.resources) (hc : r.covers sc a = true) : s.route sc a = .resource r := by
  unfold State.route; rw [List.find?_eq_none.2 hn, State.resourceAt_eq_some hw hr hc]

end Resolution

/-- Else nothing does (R75). -/
theorem State.route_unmapped {s : State} {sc : SecurityLevel} {a : Word}
    (hn : ∀ g ∈ s.mapped, ¬g.standsAt sc a = true) (hr : ∀ r ∈ s.resources, ¬r.covers sc a = true) :
    s.route sc a = .unmapped := by
  unfold State.route State.resourceAt; rw [List.find?_eq_none.2 hn, List.find?_eq_none.2 hr]

/-- Settles O32: two registrations that are both visible at an address could not stand together. -/
theorem atMostOneVisible : Obligations.AtMostOneVisible := by
  unfold Obligations.AtMostOneVisible
  intro s hw sc a
  refine ⟨fun r hr q hq hrc hqc => Option.some.inj ?_, ?_⟩
  · rw [← State.resourceAt_eq_some hw hr hrc, State.resourceAt_eq_some hw hq hqc]
  · obtain ⟨-, -, -, hmapped⟩ := hw
    exact length_filter_le_one_of_pairwise hmapped fun _ _ => MappedRegister.not_apart_of_standsAt

/-! ### Access by the target -/

section Access

variable {s : State} {sc : SecurityLevel} {a : Word}

theorem memReadScope_device {i : Nat} (h : s.route sc a = .device i) :
    memReadScope sc a s = .ok (s.deviceValue i, s.afterDeviceRead i) := by
  simp [memReadScope, State.accessible, State.readValue, State.afterRead, h]

theorem memReadScope_resource {r : Resource} (h : s.route sc a = .resource r) :
    memReadScope sc a s = .ok (s.resourceByte r a, s) := by
  simp [memReadScope, State.accessible, State.readValue, State.afterRead, h]

theorem accessible_unmapped (h : s.route sc a = .unmapped) : s.accessible sc a = false := by
  unfold State.accessible; rw [h]

theorem memWrite_device {i : Nat} (h : s.route s.level a = .device i) (v : Byte) :
    memWrite a v s = .ok (s.withDevices (devicesAfterWrite s.devices i v)) := by
  simp [memWrite, State.accessible, State.afterWrite, h]

theorem memWrite_resource {r : Resource} (h : s.route s.level a = .resource r) (v : Byte) :
    memWrite a v s = .ok (s.storeByte r a v) := by
  simp [memWrite, State.accessible, State.afterWrite, h]

theorem memWrite_eq_afterWrite {v : Byte} {t : State} (h : memWrite a v s = .ok t) :
    t = s.afterWrite s.level a v := memWrite_ensures a v s t h

end Access

theorem not_standsAt_of_unseen {s : State} {sc : SecurityLevel} {a : Word}
    (h : ∀ g ∈ s.mapped, g.address = a →
      ¬(g.tag = .both ∨ (g.tag = .system ∧ sc = .system) ∨ (g.tag = .user ∧ sc = .user))) :
    ∀ g ∈ s.mapped, ¬g.standsAt sc a = true := by
  intro g hg hs
  obtain ⟨ht, ha⟩ := MappedRegister.standsAt_iff.1 hs
  exact h g hg ha (Privilege.visibleIn_iff.1 ht)

theorem not_covers_of_unseen {s : State} {sc : SecurityLevel} {a : Word}
    (h : ∀ r ∈ s.resources, r.first.toNat ≤ a.toNat → a.toNat ≤ r.last.toNat →
      ¬(r.tag = .both ∨ (r.tag = .system ∧ sc = .system) ∨ (r.tag = .user ∧ sc = .user))) :
    ∀ r ∈ s.resources, ¬r.covers sc a = true := by
  intro r hr hc
  obtain ⟨ht, hf, hl⟩ := Resource.covers_iff.1 hc
  exact h r hr hf hl (Privilege.visibleIn_iff.1 ht)

/-- Settles O6: the target of a read is the one registration visible there. -/
theorem readResolution : Obligations.ReadResolution := by
  unfold Obligations.ReadResolution
  intro s sc a hw seen
  refine ⟨fun g hg ha ht => ?_, fun hn => ⟨fun r hr hf hl ht => ?_, fun hu => ?_⟩⟩
  · exact memReadScope_device
      (State.route_device hw hg (MappedRegister.standsAt_iff.2 ⟨Privilege.visibleIn_iff.2 ht, ha⟩))
  · obtain ⟨m, hm, -⟩ := State.backing_of_mem hw hr
    have hc : r.covers sc a = true := Resource.covers_iff.2 ⟨Privilege.visibleIn_iff.2 ht, hf, hl⟩
    refine ⟨m, hm, ?_⟩
    rw [memReadScope_resource (State.route_eq_resource hw (not_standsAt_of_unseen hn) hr hc)]
    simp [State.resourceByte, readBacking, hm, Resource.offset]
  · exact memReadScope_fault
      (accessible_unmapped (State.route_unmapped (not_standsAt_of_unseen hn) (not_covers_of_unseen hu)))

/-- Settles O7: a write has the target of a read at the current level. -/
theorem writeResolution : Obligations.WriteResolution := by
  unfold Obligations.WriteResolution
  intro s a v hw seen
  refine ⟨fun g hg ha ht => ?_, fun hn => ⟨fun r hr hf hl ht => ?_, fun hu => ?_⟩⟩
  · exact memWrite_device
      (State.route_device hw hg (MappedRegister.standsAt_iff.2 ⟨Privilege.visibleIn_iff.2 ht, ha⟩)) v
  · have hc : r.covers s.level a = true := Resource.covers_iff.2 ⟨Privilege.visibleIn_iff.2 ht, hf, hl⟩
    exact memWrite_resource (State.route_eq_resource hw (not_standsAt_of_unseen hn) hr hc) v
  · exact memWrite_fault
      (accessible_unmapped (State.route_unmapped (not_standsAt_of_unseen hn) (not_covers_of_unseen hu))) v

/-! ### One byte of one object -/

theorem cellAt_resource {s : State} {sc : SecurityLevel} {a : Word} {r : Resource}
    (h : s.route sc a = .resource r) : s.cellAt sc a = some (r.backing, a.toNat - r.first.toNat) := by
  unfold State.cellAt; rw [h]; rfl

theorem covers_of_route {s : State} {sc : SecurityLevel} {a : Word} {r : Resource}
    (h : s.route sc a = .resource r) : r ∈ s.resources ∧ r.covers sc a = true :=
  State.resourceAt_some (State.route_resource h).2

/-- Settles O8: a write changes the one byte of its cell, and a registration has each byte at one address. -/
theorem byteWriteReplacesOneByte : Obligations.ByteWriteReplacesOneByte := by
  unfold Obligations.ByteWriteReplacesOneByte
  intro s sc a v r hw hr sc' b
  have ha := cellAt_resource hr
  refine ⟨?_, fun hb => ?_⟩
  · split
    · rename_i hb
      exact plainByte_afterWrite_same ha hb (State.cellAt_lt hw ha) v
    · rename_i hb
      exact plainByte_afterWrite_other (.inr fun h => hb (h.symm.trans ha)) v
  · rw [cellAt_resource hb]
    constructor
    · intro h
      have hoffset : r.offset b = r.offset a := (Prod.ext_iff.1 (Option.some.inj h)).2
      exact Resource.offset_inj (covers_of_route hb).2 (covers_of_route hr).2 hoffset
    · rintro rfl; rfl

/-- A plain byte read at a level (R71, R79). -/
theorem memRead_of_plainByte {s : State} {l : SecurityLevel} {a : Word} {v : Byte}
    (h : s.plainByte l a = some v) : memRead a (s.withLevel l) = .ok (v, s.withLevel l) := by
  have h : (s.withLevel l).plainByte (s.withLevel l).level a = some v := h
  obtain ⟨hacc, hval, hafter⟩ := read_of_plainByte h
  rw [memRead_ok hacc, hval, hafter]

/-- Two registrations over one address do not share a backing resource, whatever their tags (R65). -/
theorem Resource.backing_ne_of_apart {q r : Resource} {a : Word} (h : q.apart r) (hq : q.contains a = true)
    (hr : r.contains a = true) : q.backing ≠ r.backing := by
  simp only [Resource.contains, Bool.and_eq_true, decide_eq_true_eq] at hq hr
  have hc := h.1
  simp only [Resource.conflicts, rangesMeet_of_mem hr hq, Bool.true_and, Bool.or_eq_false_iff,
    beq_eq_false_iff_ne] at hc
  exact hc.2.symm

theorem State.backing_ne_of_contains {s : State} (hw : s.wf) {q r : Resource} {a : Word} (hq : q ∈ s.resources)
    (hr : r ∈ s.resources) (hne : q ≠ r) (hqa : q.contains a = true) (hra : r.contains a = true) :
    q.backing ≠ r.backing := by
  obtain ⟨-, -, hresources, -⟩ := hw
  have hsymm : Std.Symm fun q r : Resource => q.contains a = true → r.contains a = true → q.backing ≠ r.backing :=
    ⟨fun _ _ h hr hq => (h hq hr).symm⟩
  exact (hresources.imp Resource.backing_ne_of_apart).forall hq hr hne hqa hra

theorem contains_of_route {s : State} {sc : SecurityLevel} {a : Word} {r : Resource}
    (h : s.route sc a = .resource r) : r.contains a = true := by
  have hc := (covers_of_route h).2
  simp only [Resource.covers, Bool.and_eq_true] at hc
  exact hc.2

/-- A byte written to a resource reads back from every scope that has the resource there. -/
theorem memRead_after_memWrite_resource {s t : State} (hw : s.wf) {a : Word} {v : Byte} {r : Resource}
    (hr : ∀ l, s.route l a = .resource r) (h : memWrite a v s = .ok t) (l : SecurityLevel) :
    memRead a (t.withLevel l) = .ok (v, t.withLevel l) := by
  have hc := cellAt_resource (hr s.level)
  rw [memWrite_eq_afterWrite h]
  exact memRead_of_plainByte
    (plainByte_afterWrite_same hc (cellAt_resource (hr l)) (State.cellAt_lt hw hc) v)

/-- A byte written to a latch reads back from every scope that sees it. -/
theorem memRead_after_memWrite_latch {s t : State} {a : Word} {v w : Byte} {i : Nat}
    (hr : ∀ l, s.route l a = .device i) (hd : s.devices[i]? = some (.latch w)) (h : memWrite a v s = .ok t)
    (l : SecurityLevel) : memRead a (t.withLevel l) = .ok (v, t.withLevel l) := by
  rw [memWrite_device (hr s.level)] at h
  cases h
  obtain ⟨hi, -⟩ := List.getElem?_eq_some_iff.1 hd
  have hd' : (devicesAfterWrite s.devices i v)[i]? = some (.latch v) := by
    unfold devicesAfterWrite
    rw [hd]
    exact List.getElem?_set_self hi
  have hread := memReadScope_device (s := (s.withDevices (devicesAfterWrite s.devices i v)).withLevel l) (hr l)
  simp only [State.deviceValue, State.afterDeviceRead, withLevel_devices, withDevices_devices, hd'] at hread
  exact hread

/-- A byte written where the two scopes have different registrations leaves the other scope's byte. -/
theorem plainByte_other_scope {s t : State} (hw : s.wf) {a : Word} {v : Byte} {r q : Resource} {l : SecurityLevel}
    (hr : s.route s.level a = .resource r) (hq : s.route l a = .resource q) (hne : r ≠ q)
    (h : memWrite a v s = .ok t) : t.plainByte l a = s.plainByte l a := by
  have hb := State.backing_ne_of_contains hw (covers_of_route hr).1 (covers_of_route hq).1 hne
    (contains_of_route hr) (contains_of_route hq)
  rw [memWrite_eq_afterWrite h]
  refine plainByte_afterWrite_other (.inr ?_) v
  rw [cellAt_resource hr, cellAt_resource hq]
  exact fun hc => hb (congrArg Prod.fst (Option.some.inj hc))

/-- Settles O9: two scopes share a byte exactly where they share the registration. -/
theorem bothIsOneObject : Obligations.BothIsOneObject := by
  unfold Obligations.BothIsOneObject
  refine ⟨fun s t a v r hw hs ht hu h => ?_, fun s t a v w g hw hg ht ha hd h => ?_,
    fun s t a v r q hw hs hu hr hq h l hl => ?_⟩
  · exact memRead_after_memWrite_resource hw (fun l => by cases l <;> assumption) h
  · refine memRead_after_memWrite_latch (fun l => State.route_device hw hg ?_) hd h
    exact MappedRegister.standsAt_iff.2 ⟨Privilege.visibleIn_iff.2 (.inl ht), ha⟩
  · have hne : r ≠ q := by rintro rfl; simp [hr] at hq
    cases hlevel : s.level <;> cases l
    case system.system | user.user => exact absurd hlevel.symm hl
    case system.user => exact plainByte_other_scope hw (hlevel ▸ hs) hu hne h
    case user.system => exact plainByte_other_scope hw (hlevel ▸ hu) hs hne.symm h

end Sys2Proof.Machine
end

section
/-! SUPPORT. The outer loop's calls (spec/20_memory.md R61 to R69, R81 to R83; spec/60_exceptions.md R432): when each
succeeds, what it does, and that the ones that fail change nothing. -/

namespace Sys2Proof.Machine

/-! ### Registrations that meet -/

theorem tagsClash_iff {p q : Privilege} : tagsClash p q = true ↔ p = q ∨ p = .both ∨ q = .both := by
  simp [tagsClash, or_assoc]

/-- Two ranges that are not empty share an address exactly where each begins before the other ends. -/
theorem rangesMeet_iff {first last first' last' : Word} (h : first.toNat ≤ last.toNat)
    (h' : first'.toNat ≤ last'.toNat) :
    rangesMeet first last first' last' = true ↔
      ∃ a : Word, (first.toNat ≤ a.toNat ∧ a.toNat ≤ last.toNat)
        ∧ first'.toNat ≤ a.toNat ∧ a.toNat ≤ last'.toNat := by
  refine ⟨fun hm => ?_, fun ⟨_, ha, ha'⟩ => rangesMeet_of_mem ha ha'⟩
  simp only [rangesMeet, Bool.and_eq_true, decide_eq_true_eq] at hm
  rcases Nat.le_total first.toNat first'.toNat with hle | hle
  · exact ⟨first', ⟨hle, hm.2⟩, Nat.le_refl _, h'⟩
  · exact ⟨first, ⟨Nat.le_refl _, h⟩, hle, hm.1⟩

theorem Resource.conflicts_eq_false_iff {r : Resource} {place : Nat} {first last : Word} {tag : Privilege}
    (hr : r.first.toNat ≤ r.last.toNat) (h : first.toNat ≤ last.toNat) :
    r.conflicts place first last tag = false ↔
      ∀ a : Word, r.first.toNat ≤ a.toNat → a.toNat ≤ r.last.toNat → first.toNat ≤ a.toNat →
        a.toNat ≤ last.toNat → ¬(r.tag = tag ∨ r.tag = .both ∨ tag = .both) ∧ r.backing ≠ place := by
  rw [← Bool.not_eq_true, Resource.conflicts, Bool.and_eq_true, rangesMeet_iff hr h, Bool.or_eq_true, tagsClash_iff,
    beq_iff_eq]
  constructor
  · intro hn a h₁ h₂ h₃ h₄
    exact not_or.1 fun hc => hn ⟨⟨a, ⟨h₁, h₂⟩, h₃, h₄⟩, hc⟩
  · rintro hn ⟨⟨a, ⟨h₁, h₂⟩, h₃, h₄⟩, hc⟩
    exact not_or.2 (hn a h₁ h₂ h₃ h₄) hc

theorem MappedRegister.conflicts_eq_false_iff {g : MappedRegister} {place : Nat} {a : Word} {tag : Privilege} :
    g.conflicts place a tag = false ↔
      (g.address = a → ¬(g.tag = tag ∨ g.tag = .both ∨ tag = .both) ∧ g.device ≠ place) := by
  rw [← Bool.not_eq_true, MappedRegister.conflicts, Bool.and_eq_true, Bool.or_eq_true, tagsClash_iff, beq_iff_eq,
    beq_iff_eq, not_and, not_or]

/-! ### The calls, each by its condition -/

section Calls

variable {s : State}

/-- `RegisterMemoryResource` succeeds. -/
def State.canRegisterResource (s : State) (object : ObjectRef Backing) (first last : Word) (tag : Privilege) : Prop :=
  first.toNat ≤ last.toNat
    ∧ ((object.canonical.listed s.backings)[object.canonical.place s.backings]?).map Backing.size
        = some (last.toNat - first.toNat + 1)
    ∧ ∀ r ∈ s.resources, r.conflicts (object.canonical.place s.backings) first last tag = false

theorem registerResource_ok {object : ObjectRef Backing} {first last : Word} {tag : Privilege}
    (h : s.canRegisterResource object first last tag) :
    registerResource object first last tag s = .reply (.handle s.nextHandle)
      { s with
        backings := object.canonical.listed s.backings
        resources := { handle := s.nextHandle, backing := object.canonical.place s.backings, first := first,
                       last := last, tag := tag } :: s.resources
        nextHandle := s.nextHandle + 1 } := by
  obtain ⟨hle, hsize, hfree⟩ := h
  exact if_pos ⟨hle, hsize, by simpa using hfree⟩

theorem registerResource_fails {object : ObjectRef Backing} {first last : Word} {tag : Privilege}
    (h : ¬s.canRegisterResource object first last tag) :
    registerResource object first last tag s = .fault (.memoryControllerError s) := by
  refine if_neg fun hc => h ?_
  obtain ⟨hle, hsize, hfree⟩ := hc
  exact ⟨hle, hsize, by simpa using hfree⟩

/-- `RegisterMemoryMappedRegister` succeeds. -/
def State.canRegisterMapped (s : State) (object : ObjectRef Device) (a : Word) (tag : Privilege) : Prop :=
  object.place s.devices < (object.listed s.devices).length
    ∧ ∀ g ∈ s.mapped, g.conflicts (object.place s.devices) a tag = false

theorem registerMapped_ok {object : ObjectRef Device} {a : Word} {tag : Privilege}
    (h : s.canRegisterMapped object a tag) :
    registerMapped object a tag s = .reply .done
      { s with
        devices := object.listed s.devices
        mapped := { device := object.place s.devices, address := a, tag := tag } :: s.mapped } := by
  obtain ⟨hplace, hfree⟩ := h
  exact if_pos ⟨hplace, by simpa using hfree⟩

theorem registerMapped_fails {object : ObjectRef Device} {a : Word} {tag : Privilege}
    (h : ¬s.canRegisterMapped object a tag) :
    registerMapped object a tag s = .fault (.memoryControllerError s) := by
  refine if_neg fun hc => h ?_
  obtain ⟨hplace, hfree⟩ := hc
  exact ⟨hplace, by simpa using hfree⟩

theorem unregisterResource_ok {handle : Nat} {tag : Privilege}
    (h : ∃ r ∈ s.resources, r.handle = handle ∧ r.tag = tag) :
    unregisterResource handle tag s
      = .reply .done (s.withResources (s.resources.filter fun r => !r.isNamed handle tag)) :=
  if_pos (by simpa [Resource.isNamed] using h)

theorem unregisterResource_fails {handle : Nat} {tag : Privilege}
    (h : ∀ r ∈ s.resources, ¬(r.handle = handle ∧ r.tag = tag)) :
    unregisterResource handle tag s = .fault (.memoryControllerError s) :=
  if_neg (by simpa [Resource.isNamed] using h)

theorem unregisterMapped_ok {a : Word} {tag : Privilege} (h : ∃ g ∈ s.mapped, g.address = a ∧ g.tag = tag) :
    unregisterMapped a tag s = .reply .done (s.withMapped (s.mapped.filter fun g => !g.isAt a tag)) :=
  if_pos (by simpa [MappedRegister.isAt] using h)

theorem unregisterMapped_fails {a : Word} {tag : Privilege}
    (h : ∀ g ∈ s.mapped, ¬(g.address = a ∧ g.tag = tag)) :
    unregisterMapped a tag s = .fault (.memoryControllerError s) :=
  if_neg (by simpa [MappedRegister.isAt] using h)

theorem loadBytes_ok {buffer : List Byte} {dest : Word} {r : Resource} (hr : s.resourceAt s.level dest = some r)
    (hfits : r.offset dest + buffer.length ≤ r.size) :
    loadBytes buffer dest s
      = .reply .done (s.withBackings (s.backings.modify r.backing fun m => m.load (r.offset dest) buffer)) := by
  unfold loadBytes; rw [hr]; exact if_pos hfits

theorem loadBytes_too_long {buffer : List Byte} {dest : Word} {r : Resource}
    (hr : s.resourceAt s.level dest = some r) (hlong : r.size < r.offset dest + buffer.length) :
    loadBytes buffer dest s = .fault (.memoryControllerError s) := by
  unfold loadBytes; rw [hr]; exact if_neg (Nat.not_le_of_lt hlong)

theorem loadBytes_none {buffer : List Byte} {dest : Word} (hr : s.resourceAt s.level dest = none) :
    loadBytes buffer dest s = .fault (.memoryControllerError s) := by
  unfold loadBytes; rw [hr]; rfl

end Calls

/-! ### Registration -/

/-- The condition of `RegisterMemoryResource` as the statement writes it. -/
theorem canRegisterResource_iff {s : State} (hw : s.wf) {object : ObjectRef Backing} {first last : Word}
    {tag : Privilege} {place : Nat} {size : Option Nat} (hplace : object.canonical.place s.backings = place)
    (hsize : ((object.canonical.listed s.backings)[place]?).map Backing.size = size) :
    s.canRegisterResource object first last tag ↔
      first.toNat ≤ last.toNat ∧ size = some (last.toNat - first.toNat + 1)
        ∧ ∀ r ∈ s.resources, ∀ a : Word, r.first.toNat ≤ a.toNat → a.toNat ≤ r.last.toNat →
            first.toNat ≤ a.toNat → a.toNat ≤ last.toNat →
              ¬(r.tag = tag ∨ r.tag = .both ∨ tag = .both) ∧ r.backing ≠ place := by
  subst hplace hsize
  obtain ⟨-, hresource, -, -⟩ := hw
  refine and_congr_right fun hle => and_congr_right fun _ => forall₂_congr fun r hr => ?_
  exact Resource.conflicts_eq_false_iff (hresource r hr).1 hle

theorem canRegisterMapped_iff {s : State} {object : ObjectRef Device} {a : Word} {tag : Privilege} {place : Nat}
    {there : Prop} (hplace : object.place s.devices = place)
    (hthere : place < (object.listed s.devices).length ↔ there) :
    s.canRegisterMapped object a tag ↔
      there ∧ ∀ g ∈ s.mapped, g.address = a →
        ¬(g.tag = tag ∨ g.tag = .both ∨ tag = .both) ∧ g.device ≠ place := by
  subst hplace
  exact and_congr hthere (forall₂_congr fun _ _ => MappedRegister.conflicts_eq_false_iff)

/-- Where a handle names a registration under its tag, taking it away leaves those of the other handles. -/
theorem filter_isNamed {s : State} (hw : s.wf) {handle : Nat} {tag : Privilege}
    (h : ∃ r ∈ s.resources, r.handle = handle ∧ r.tag = tag) :
    s.resources.filter (fun r => !r.isNamed handle tag) = s.resources.filter fun r => r.handle != handle := by
  obtain ⟨-, -, hresources, -⟩ := hw
  obtain ⟨q, hq, rfl, rfl⟩ := h
  refine List.filter_congr fun r hr => ?_
  by_cases hne : r = q
  · subst hne; simp [Resource.isNamed]
  · have hh : r.handle ≠ q.handle := pairwise_ne (hresources.imp And.right) hr hq hne
    simp [Resource.isNamed, beq_eq_false_iff_ne.2 hh, bne]

/-- Settles O10: each call tests its condition, which the invariant turns into the statement's, and does its effect. -/
theorem registrationCalls : Obligations.RegistrationCalls := by
  unfold Obligations.RegistrationCalls
  intro s hw clash
  refine ⟨fun object first last tag => ?_, fun handle tag => ⟨fun h => ?_, unregisterResource_fails⟩,
    fun object a tag => ?_, fun a tag => ⟨fun h => ?_, unregisterMapped_fails⟩⟩
  · cases object with
    | fresh m =>
      have hiff := canRegisterResource_iff hw (first := first) (last := last) (tag := tag)
        (object := .fresh m) (size := some m.size) rfl
        (by simp [ObjectRef.canonical, ObjectRef.listed, ObjectRef.place, Backing.canonical])
      exact ⟨fun hfree => registerResource_ok (hiff.2 hfree), fun hn => registerResource_fails (hn ∘ hiff.1)⟩
    | known k =>
      have hiff := canRegisterResource_iff hw (first := first) (last := last) (tag := tag)
        (object := .known k) rfl rfl
      exact ⟨fun hfree => registerResource_ok (hiff.2 hfree), fun hn => registerResource_fails (hn ∘ hiff.1)⟩
  · rw [← filter_isNamed hw h]
    exact unregisterResource_ok h
  · cases object with
    | fresh d =>
      have hiff := canRegisterMapped_iff (s := s) (a := a) (tag := tag) (object := .fresh d) (there := True) rfl
        (by simp [ObjectRef.listed, ObjectRef.place])
      exact ⟨fun hfree => registerMapped_ok (hiff.2 hfree), fun hn => registerMapped_fails (hn ∘ hiff.1)⟩
    | known k =>
      have hiff := canRegisterMapped_iff (s := s) (a := a) (tag := tag) (object := .known k) rfl Iff.rfl
      exact ⟨fun hfree => registerMapped_ok (hiff.2 hfree), fun hn => registerMapped_fails (hn ∘ hiff.1)⟩
  · refine ⟨_, unregisterMapped_ok h, fun g => ?_⟩
    simp only [MappedRegister.isAt, List.mem_filter, Bool.not_eq_true', Bool.and_eq_false_iff, beq_eq_false_iff_ne,
      not_and_or]

/-! ### Failure -/

/-- The call answers, is refused, or fails and leaves the state it was made in (R432). -/
def HostOutcome.FailsUnchanged (s : State) (o : HostOutcome) : Prop :=
  ∀ f, o = .fault f → f = .memoryControllerError s

theorem hostFails_failsUnchanged (s : State) : (hostFails s).FailsUnchanged s := fun _ h => by cases h; rfl

theorem reply_failsUnchanged (s : State) (r : HostReply) (t : State) : (HostOutcome.reply r t).FailsUnchanged s :=
  fun _ h => by cases h

theorem ite_failsUnchanged {s : State} {p : Prop} [Decidable p] {r : HostReply} {t : State} :
    (if p then HostOutcome.reply r t else hostFails s).FailsUnchanged s := by
  split
  · exact reply_failsUnchanged s r t
  · exact hostFails_failsUnchanged s

theorem loadBytes_failsUnchanged (buffer : List Byte) (dest : Word) (s : State) :
    (loadBytes buffer dest s).FailsUnchanged s := by
  unfold loadBytes
  split
  · exact hostFails_failsUnchanged s
  · exact ite_failsUnchanged

theorem runHostMoves_fault {m : HostMove} {s : State} {f : Fault} (h : hostMove m s = .fault f) (ms : List HostMove) :
    runHostMoves (m :: ms) s = runHostMoves ms f.left := by
  rw [runHostMoves, h]

/-- Settles O11: each of these calls ends in `hostFails` where its condition does not hold. -/
theorem failingRegistrationChangesNothing : Obligations.FailingRegistrationChangesNothing := by
  unfold Obligations.FailingRegistrationChangesNothing
  intro s m f hm h
  have hf : f = .memoryControllerError s := by
    cases m with
    | registerResource object first last tag => exact ite_failsUnchanged f h
    | unregisterResource handle tag => exact ite_failsUnchanged f h
    | registerMapped object a tag => exact ite_failsUnchanged f h
    | unregisterMapped a tag => exact ite_failsUnchanged f h
    | load buffer dest bank =>
      cases bank with
      | none => exact loadBytes_failsUnchanged buffer dest s f h
      | some k => cases h
    | _ => exact hm.elim
  subst hf
  exact ⟨rfl, runHostMoves_fault h⟩

/-! ### Load -/

/-- A byte after a bulk load, by the buffer. -/
theorem Memory.read_load_eq_getD (m : Memory) (k j : Nat) (vs : List Byte) :
    (Memory.load m k vs).read j = if k ≤ j then (vs[j - k]?).getD (m.read j) else m.read j := by
  rw [Memory.read_load]
  by_cases hk : k ≤ j
  · by_cases hj : j < k + vs.length
    · have hlt : j - k < vs.length := by omega
      simp [hk, hj, hlt]
    · have hge : vs.length ≤ j - k := by omega
      simp [hk, hj, hge]
  · simp [hk]

/-- Settles O13: the resource is there by the invariant, and `Memory.load` gives its bytes. -/
theorem loadFillsTheResource : Obligations.LoadFillsTheResource := by
  unfold Obligations.LoadFillsTheResource
  intro s buffer dest hw
  refine ⟨fun r hr => ⟨fun hfits => ?_, loadBytes_too_long hr⟩, loadBytes_none, fun _ => rfl⟩
  obtain ⟨m, hm, -⟩ := State.backing_of_mem hw (State.resourceAt_some hr).1
  refine ⟨m, Memory.load m.bytes (r.offset dest) buffer, hm, ?_, fun j => Memory.read_load_eq_getD _ _ _ _⟩
  have hset : s.backings.modify r.backing (fun m => m.load (r.offset dest) buffer)
      = s.backings.set r.backing (m.load (r.offset dest) buffer) := by
    rw [List.modify_eq_set_getElem?, hm]; rfl
  exact (loadBytes_ok hr hfits).trans (by rw [hset]; rfl)

/-! ### Byte and word access -/

theorem memReadWord_ok {s : State} {a : Word} (ha : s.accessible s.level a = true)
    (hb : s.accessible s.level (a + 1) = true) :
    memReadWord a s = .ok ((s.afterRead s.level a).readValue s.level (a + 1) ++ s.readValue s.level a,
      (s.afterRead s.level a).afterRead s.level (a + 1)) := by
  unfold memReadWord
  rw [memRead_ok ha, ok_bind]
  dsimp only
  rw [memRead_ok (by simpa using hb), afterRead_level]
  rfl

theorem memReadWord_fault_second {s : State} {a : Word} (ha : s.accessible s.level a = true)
    (hb : s.accessible s.level (a + 1) = false) :
    memReadWord a s = .error (.memoryUnmapped (a + 1) (s.afterRead s.level a)) := by
  unfold memReadWord
  rw [memRead_ok ha, ok_bind]
  dsimp only
  rw [memRead_fault (by simpa using hb)]
  rfl

theorem memReadWord_fault_first {s : State} {a : Word} (ha : s.accessible s.level a = false) :
    memReadWord a s = .error (.memoryUnmapped a s) := by
  unfold memReadWord; rw [memRead_fault ha]; rfl

theorem memWriteWord_fault_second {s : State} {a : Word} (ha : s.accessible s.level a = true)
    (hb : s.accessible s.level (a + 1) = false) (v : Word) :
    memWriteWord a v s = .error (.memoryUnmapped (a + 1) (s.afterWrite s.level a (lo v))) := by
  unfold memWriteWord
  rw [memWrite_ok ha, ok_bind, memWrite_fault (by simpa using hb)]

theorem memWriteWord_fault_first {s : State} {a : Word} (ha : s.accessible s.level a = false) (v : Word) :
    memWriteWord a v s = .error (.memoryUnmapped a s) := by
  unfold memWriteWord; rw [memWrite_fault ha]; rfl

section HostAccess

variable {s t : State} {a v : Word} {x : Byte} {f : Fault}

theorem hostMove_readByte_ok (h : memRead a s = .ok (x, t)) : hostMove (.readByte a) s = .reply (.byte x) t := by
  simp only [hostMove, h]

theorem hostMove_readByte_fault (h : memRead a s = .error f) : hostMove (.readByte a) s = .fault f := by
  simp only [hostMove, h]

theorem hostMove_writeByte_ok (h : memWrite a x s = .ok t) : hostMove (.writeByte a x) s = .reply .done t := by
  simp only [hostMove, h]

theorem hostMove_writeByte_fault (h : memWrite a x s = .error f) : hostMove (.writeByte a x) s = .fault f := by
  simp only [hostMove, h]

theorem hostMove_readWord_ok (h : memReadWord a s = .ok (v, t)) : hostMove (.readWord a) s = .reply (.word v) t := by
  simp only [hostMove, h]

theorem hostMove_readWord_fault (h : memReadWord a s = .error f) : hostMove (.readWord a) s = .fault f := by
  simp only [hostMove, h]

theorem hostMove_writeWord_ok (h : memWriteWord a v s = .ok t) : hostMove (.writeWord a v) s = .reply .done t := by
  simp only [hostMove, h]

theorem hostMove_writeWord_fault (h : memWriteWord a v s = .error f) : hostMove (.writeWord a v) s = .fault f := by
  simp only [hostMove, h]

end HostAccess

/-- Settles O12: by the three ways the two accesses can go. -/
theorem wordAccessIsLittleEndian : Obligations.WordAccessIsLittleEndian := by
  unfold Obligations.WordAccessIsLittleEndian
  intro s a v low read wrote
  refine ⟨fun ha hb => ⟨?_, ?_⟩, fun ha hb => ⟨?_, ?_⟩, fun ha => ⟨?_, ?_⟩⟩
  · exact hostMove_readWord_ok (memReadWord_ok ha hb)
  · exact hostMove_writeWord_ok (memWriteWord_ok ha hb v)
  · exact hostMove_readWord_fault (memReadWord_fault_second ha hb)
  · exact hostMove_writeWord_fault (memWriteWord_fault_second ha hb v)
  · exact hostMove_readWord_fault (memReadWord_fault_first ha)
  · exact hostMove_writeWord_fault (memWriteWord_fault_first ha v)

/-! ### The LCD control register -/

/-- Settles O14: by the old and the new value of bit 7. -/
theorem lcdControlEdges : Obligations.LcdControlEdges := by
  unfold Obligations.LcdControlEdges
  intro last v enables disables
  unfold writeLcdControl
  cases last.getLsbD 7 <;> cases v.getLsbD 7 <;> rfl

end Sys2Proof.Machine
end

section
/-! SUPPORT. What the accesses of a cycle do to memory (spec/20_memory.md R68, R73, R80): the bytes a cycle can change
are those of the addresses its instruction stores to, and its only fault is an access to an unmapped address. -/

namespace Sys2Proof.Machine

/-! ### The memory after accesses -/

/-- `s.Stores here t`: `t` is `s` after reads, register and signal writes, and byte writes at the level to addresses
in `here`. -/
inductive State.Stores (here : Word → Prop) (s : State) : State → Prop
  | refl : State.Stores here s s
  | read {t : State} (sc : SecurityLevel) (a : Word) : State.Stores here s t → State.Stores here s (t.afterRead sc a)
  | write {t : State} {a : Word} (v : Byte) :
      State.Stores here s t → here a → State.Stores here s (t.afterWrite t.level a v)
  | regs {t : State} (rb : RegisterBank) : State.Stores here s t → State.Stores here s (t.withRegs rb)
  | sig {t : State} (g : Signals) : State.Stores here s t → State.Stores here s (t.withSig g)

section Stores

variable {here here' : Word → Prop} {s t u : State}

theorem State.Stores.trans (h : s.Stores here t) (k : t.Stores here u) : s.Stores here u := by
  induction k with
  | refl => exact h
  | read sc a _ ih => exact ih.read sc a
  | write v _ ha ih => exact ih.write v ha
  | regs rb _ ih => exact ih.regs rb
  | sig g _ ih => exact ih.sig g

theorem State.Stores.mono (h : s.Stores here t) (hm : ∀ a, here a → here' a) : s.Stores here' t := by
  induction h with
  | refl => exact .refl
  | read sc a _ ih => exact ih.read sc a
  | write v _ ha ih => exact ih.write v (hm _ ha)
  | regs rb _ ih => exact ih.regs rb
  | sig g _ ih => exact ih.sig g

theorem State.Stores.sameRouting (h : s.Stores here t) : s.SameRouting t := by
  induction h with
  | refl => exact .refl s
  | @read t sc a _ ih => exact ih.trans (sameRouting_afterRead t sc a)
  | @write t a v _ _ ih => exact ih.trans (sameRouting_afterWrite t t.level a v)
  | @regs t rb _ ih => exact ih.trans (sameRouting_withRegs t rb)
  | @sig t g _ ih => exact ih.trans (sameRouting_withSig t g)

theorem State.SameRouting.cellAt_eq (h : s.SameRouting t) (sc : SecurityLevel) (a : Word) :
    t.cellAt sc a = s.cellAt sc a := by
  unfold State.cellAt; rw [route_congr h.mapped h.resources]

theorem State.SameRouting.accessible_eq (h : s.SameRouting t) (sc : SecurityLevel) (a : Word) :
    t.accessible sc a = s.accessible sc a := by
  unfold State.accessible; rw [route_congr h.mapped h.resources]

/-- A byte that no stored address is the byte of is as before (R68, R73). -/
theorem State.Stores.plainByte_eq (h : s.Stores here t) {sc : SecurityLevel} {b : Word}
    (hb : s.cellAt sc b = none ∨ ∀ a, here a → s.cellAt s.level a ≠ s.cellAt sc b) :
    t.plainByte sc b = s.plainByte sc b := by
  induction h with
  | refl => rfl
  | read sc a _ ih => rw [plainByte_afterRead, ih]
  | regs rb _ ih => exact ih
  | sig g _ ih => exact ih
  | write v h ha ih =>
    have hr := h.sameRouting
    rw [plainByte_afterWrite_other (hb.imp (hr.cellAt_eq sc b).trans fun hne => ?_), ih]
    rw [hr.level, hr.cellAt_eq, hr.cellAt_eq]
    exact hne _ ha

end Stores

/-! ### Faults of an access -/

/-- The fault is `MemoryUnmapped` at an address that the level or the scope `src` of the source reads does not map. -/
def State.UnmappedBy (src : SecurityLevel) (s : State) (f : Fault) : Prop :=
  ∃ a t, f = .memoryUnmapped a t ∧ (s.accessible s.level a = false ∨ s.accessible src a = false)

section Access

variable {here : Word → Prop} {src : SecurityLevel} {s t : State}

theorem State.SameRouting.unmappedBy (h : s.SameRouting t) {f : Fault} (hf : t.UnmappedBy src f) :
    s.UnmappedBy src f := by
  obtain ⟨a, u, rfl, ha⟩ := hf
  rw [h.level, h.accessible_eq, h.accessible_eq] at ha
  exact ⟨a, u, rfl, ha⟩

/-- Every fault of the computation comes of an unmapped address; where it completes, `P`. -/
abbrev OnlyUnmapped {α : Type} (src : SecurityLevel) (s : State) (P : α → Prop) (x : Except Fault α) : Prop :=
  Yields (s.UnmappedBy src) P x

/-- A computation that starts after accesses. -/
theorem OnlyUnmapped.from {α : Type} {P Q : α → Prop} {x : Except Fault α} (hx : OnlyUnmapped src t P x)
    (h : s.SameRouting t) (hP : ∀ a, P a → Q a) : OnlyUnmapped src s Q x :=
  hx.mono (fun _ => h.unmappedBy) hP

theorem memReadScope_onlyUnmapped {sc : SecurityLevel} (hsc : sc = s.level ∨ sc = src) (a : Word) :
    OnlyUnmapped src s (fun p => p.2 = s.afterRead sc a) (memReadScope sc a s) := by
  cases ha : s.accessible sc a with
  | true => rw [memReadScope_ok ha]; exact yields_ok rfl
  | false =>
    rw [memReadScope_fault ha]
    refine yields_error ⟨a, s, rfl, ?_⟩
    rcases hsc with rfl | rfl
    · exact .inl ha
    · exact .inr ha

theorem memWrite_onlyUnmapped {a : Word} (hh : here a) (v : Byte) :
    OnlyUnmapped src s (s.Stores here) (memWrite a v s) := by
  cases ha : s.accessible s.level a with
  | true => rw [memWrite_ok ha]; exact yields_ok (.write v .refl hh)
  | false => rw [memWrite_fault ha]; exact yields_error ⟨a, s, rfl, .inl ha⟩

end Access

/-! ### Step 3 -/

/-- The register fields that steps 3 and 5 use have the width they are used at (R21, R142 to R146, R165, R166). -/
structure Traits.Fits (src dst : Option Register) (t : Traits) : Prop where
  srcByte : t.op1 = .implicitReg → ∃ x, src = some (.r8 x)
  srcPair : t.op1 = .atRegister ∨ t.op2 = .atComposed ∨ t.op2 = .direct → ∃ p, src = some (.r16 p)
  dstByte : t.wb = .implicitReg → ∃ x, dst = some (.r8 x)
  dstPair : t.wb = .atOperandAddress ∨ t.wb = .atRegister → ∃ p, dst = some (.r16 p)

/-- The DecodedInstruction after step 3: the bytes fetched at PC are kept (R141). -/
def DecodedInstruction.acquired (di : DecodedInstruction) (t : Traits) (a b c : Byte) : DecodedInstruction :=
  di.withOperands (if t.op1 = .atPC then di.op1 else a) (if t.op2 = .atPC then di.op2 else b) c

/-- `s.Reads t u`: step 3 of a mode leads from `s` to `u`: nothing is stored, no signal changes, and no register but a
source pair that the mode steps. -/
structure State.Reads (t : Traits) (s u : State) : Prop where
  stores : s.Stores (fun _ => False) u
  sig : u.sig = s.sig
  regs : (t.incSrc || t.decSrc) = false → u.regs = s.regs

section Acquire

variable {src : SecurityLevel} {s u v : State} {t : Traits} {di : DecodedInstruction}

theorem State.Reads.refl (s : State) : s.Reads t s := ⟨.refl, rfl, fun _ => rfl⟩

theorem State.Reads.trans (h : s.Reads t u) (k : u.Reads t v) : s.Reads t v :=
  ⟨h.stores.trans k.stores, k.sig.trans h.sig, fun hn => (k.regs hn).trans (h.regs hn)⟩

theorem State.Reads.level (h : s.Reads t u) : u.level = s.level := h.stores.sameRouting.level

theorem State.Reads.sourceScope (h : s.Reads t u) : sourceScope u = sourceScope s := by
  unfold Machine.sourceScope; rw [h.sig, h.level]

theorem reads_afterRead (s : State) (sc : SecurityLevel) (a : Word) : s.Reads t (s.afterRead sc a) :=
  ⟨.read sc a .refl, afterRead_sig s sc a, fun _ => afterRead_regs s sc a⟩

/-- The step of a source pair changes that pair alone, where the mode steps it (R174). -/
theorem stepSrc_ok {p : Reg16} (hp : di.src = some (.r16 p)) (s : State) :
    ∃ u, stepSrc t di s = .ok u ∧ s.Reads t u := by
  unfold stepSrc
  split
  · rename_i hstep
    simp only [hp, readPairField_r16, writePairField_r16, orBankError_ok, ok_bind]
    exact ⟨_, rfl, .regs _ .refl, rfl, fun hn => absurd hstep (by simp [hn])⟩
  · exact ⟨s, rfl, .refl s⟩

theorem acquireOp1_onlyUnmapped (hf : t.Fits di.src di.dst) (s : State) :
    OnlyUnmapped (sourceScope s) s
      (fun p => (∃ a, p.1 = { di with op1 := if t.op1 = .atPC then di.op1 else a }) ∧ s.Reads t p.2)
      (acquireOp1 t di s) := by
  unfold acquireOp1
  cases ho : t.op1 with
  | skip => exact yields_ok ⟨⟨di.op1, by simp⟩, .refl s⟩
  | atPC => exact yields_ok ⟨⟨di.op1, by simp⟩, .refl s⟩
  | implicitReg =>
    obtain ⟨x, hx⟩ := hf.srcByte ho
    simp only [hx, readField_r8, orBankError_ok, ok_bind]
    refine (memReadScope_onlyUnmapped (.inl rfl) _).bind ?_
    rintro ⟨v, _⟩ rfl
    exact yields_ok ⟨⟨v, by simp⟩, reads_afterRead s _ _⟩
  | atRegister =>
    obtain ⟨p, hp⟩ := hf.srcPair (.inl ho)
    simp only [hp, readPairField_r16, orBankError_ok, ok_bind]
    refine (memReadScope_onlyUnmapped (.inr rfl) _).bind ?_
    rintro ⟨v, _⟩ rfl
    obtain ⟨u, hu, hr⟩ := stepSrc_ok (t := t) hp (s.afterRead (sourceScope s) (s.regs.get16 p))
    simp only [hu, ok_bind]
    exact yields_ok ⟨⟨v, by simp⟩, (reads_afterRead s _ _).trans hr⟩

theorem acquireOp2_onlyUnmapped (hf : t.Fits di.src di.dst) (s : State) :
    OnlyUnmapped (sourceScope s) s
      (fun p => (∃ b, p.1 = { di with op2 := if t.op2 = .atPC then di.op2 else b }) ∧ s.Reads t p.2)
      (acquireOp2 t di s) := by
  unfold acquireOp2
  cases ho : t.op2 with
  | skip => exact yields_ok ⟨⟨di.op2, by simp⟩, .refl s⟩
  | atPC => exact yields_ok ⟨⟨di.op2, by simp⟩, .refl s⟩
  | atComposed =>
    obtain ⟨p, hp⟩ := hf.srcPair (.inr (.inl ho))
    simp only [hp, readPairField_r16, orBankError_ok, ok_bind]
    refine (memReadScope_onlyUnmapped (.inl rfl) _).bind ?_
    rintro ⟨v, _⟩ rfl
    exact yields_ok ⟨⟨v, by simp⟩, reads_afterRead s _ _⟩
  | direct =>
    obtain ⟨p, hp⟩ := hf.srcPair (.inr (.inr ho))
    simp only [hp, readPairField_r16, orBankError_ok, ok_bind]
    refine (memReadScope_onlyUnmapped (.inr rfl) _).bind ?_
    rintro ⟨v, _⟩ rfl
    obtain ⟨u, hu, hr⟩ := stepSrc_ok (t := t) hp (s.afterRead (sourceScope s) (s.regs.get16 p))
    simp only [hu, ok_bind]
    exact yields_ok ⟨⟨v, by simp⟩, (reads_afterRead s _ _).trans hr⟩
  | implicitImm =>
    refine (memReadScope_onlyUnmapped (.inl rfl) _).bind ?_
    rintro ⟨v, _⟩ rfl
    exact yields_ok ⟨⟨v, by simp⟩, reads_afterRead s _ _⟩

theorem acquireOp3_onlyUnmapped (s : State) :
    OnlyUnmapped (sourceScope s) s (fun p => (∃ c, p.1 = { di with op3 := c }) ∧ s.Reads t p.2)
      (acquireOp3 t di s) := by
  unfold acquireOp3
  split
  · refine (memReadScope_onlyUnmapped (.inl rfl) _).bind ?_
    rintro ⟨v, _⟩ rfl
    exact yields_ok ⟨⟨v, rfl⟩, reads_afterRead s _ _⟩
  · exact yields_ok ⟨⟨di.op3, rfl⟩, .refl s⟩

/-- Step 3 as a whole. -/
theorem acquire_onlyUnmapped (hf : t.Fits di.src di.dst) (s : State) :
    OnlyUnmapped (sourceScope s) s (fun p => (∃ a b c, p.1 = di.acquired t a b c) ∧ s.Reads t p.2)
      (acquire t di s) := by
  refine (acquireOp1_onlyUnmapped hf s).bind ?_
  rintro ⟨_, u⟩ ⟨⟨a, rfl⟩, hu⟩
  dsimp only at hu ⊢
  rw [← hu.sourceScope]
  refine OnlyUnmapped.from (Yields.bind
    (acquireOp2_onlyUnmapped (di := { di with op1 := if t.op1 = .atPC then di.op1 else a }) hf u) ?_)
    hu.stores.sameRouting fun _ h => h
  rintro ⟨_, v⟩ ⟨⟨b, rfl⟩, hv⟩
  dsimp only at hv ⊢
  rw [← hv.sourceScope]
  refine OnlyUnmapped.from (acquireOp3_onlyUnmapped v) hv.stores.sameRouting ?_
  rintro ⟨_, w⟩ ⟨⟨c, rfl⟩, hw⟩
  exact ⟨⟨a, b, c, rfl⟩, (hu.trans hv).trans hw⟩

end Acquire

/-! ### Step 5 -/

/-- The addresses that the write-back step stores to (R165 to R170). -/
def Traits.storeAddresses (t : Traits) (di : DecodedInstruction) (rb : RegisterBank) : List Word :=
  match t.wb with
  | .skip => []
  | .atOperandAddress => (di.dst.bind rb.readPair).toList.map (· + sext di.op1)
  | .atRegister => (di.dst.bind rb.readPair).toList
  | .atComposed => [di.immediate]
  | .implicitReg => (di.dst.bind rb.read).toList.map highAddress
  | .implicitImm => [highAddress di.op1]
  | .pairAtSP => pushedAddresses rb
  | .pairAtImm => [di.immediate, di.immediate + 1]

section WriteBack

variable {src : SecurityLevel} {t : Traits} {di : DecodedInstruction}

theorem stepDst_onlyUnmapped {here : Word → Prop}
    (hd : (t.incDst || t.decDst) = true → ∃ p, di.dst = some (.r16 p)) (s : State) :
    OnlyUnmapped src s (s.Stores here) (stepDst t di s) := by
  unfold stepDst
  split
  · rename_i hstep
    obtain ⟨p, hp⟩ := hd hstep
    simp only [hp, readPairField_r16, writePairField_r16, orBankError_ok, ok_bind]
    exact yields_ok (.regs _ .refl)
  · exact yields_ok .refl

theorem memWriteWord_onlyUnmapped {here : Word → Prop} {a : Word} (ha : here a) (hb : here (a + 1)) (v : Word)
    (s : State) : OnlyUnmapped src s (s.Stores here) (memWriteWord a v s) := by
  refine (memWrite_onlyUnmapped ha (lo v)).bind fun u hu => ?_
  exact (memWrite_onlyUnmapped hb (hi v)).from hu.sameRouting fun _ => hu.trans

theorem pushResult_onlyUnmapped (s : State) :
    OnlyUnmapped src s (s.Stores (· ∈ pushedAddresses s.regs)) (pushResult di s) := by
  have hhigh : s.regs.sp - 2 + 1 ∈ pushedAddresses s.regs := List.mem_cons_self
  have hlow : s.regs.sp - 2 ∈ pushedAddresses s.regs := List.mem_cons_of_mem _ List.mem_cons_self
  refine (memWrite_onlyUnmapped hhigh _).bind fun u hu => ?_
  refine OnlyUnmapped.from ?_ hu.sameRouting fun _ h => h
  exact (memWrite_onlyUnmapped hlow _).bind fun v hv => yields_ok ((hu.trans hv).regs _)

/-- Step 5 as a whole. -/
theorem writeBack_onlyUnmapped (hf : t.Fits di.src di.dst) (s : State) :
    OnlyUnmapped src s (s.Stores (· ∈ t.storeAddresses di s.regs)) (writeBack t di s) := by
  unfold writeBack
  split
  · exact yields_ok .refl
  unfold Traits.storeAddresses
  cases hwb : t.wb with
  | skip => exact yields_ok .refl
  | atOperandAddress =>
    obtain ⟨p, hp⟩ := hf.dstPair (.inl hwb)
    simp only [hp, readPairField_r16, orBankError_ok, ok_bind]
    exact memWrite_onlyUnmapped (List.mem_singleton_self _) _
  | atRegister =>
    obtain ⟨p, hp⟩ := hf.dstPair (.inr hwb)
    simp only [hp, readPairField_r16, orBankError_ok, ok_bind]
    refine (memWrite_onlyUnmapped (List.mem_singleton_self _) _).bind fun u hu => ?_
    exact (stepDst_onlyUnmapped (fun _ => ⟨p, hp⟩) u).from hu.sameRouting fun _ => hu.trans
  | atComposed => exact memWrite_onlyUnmapped (List.mem_singleton_self _) _
  | implicitReg =>
    obtain ⟨x, hx⟩ := hf.dstByte hwb
    simp only [hx, readField_r8, orBankError_ok, ok_bind]
    exact memWrite_onlyUnmapped (List.mem_singleton_self _) _
  | implicitImm => exact memWrite_onlyUnmapped (List.mem_singleton_self _) _
  | pairAtSP => exact pushResult_onlyUnmapped s
  | pairAtImm => exact memWriteWord_onlyUnmapped List.mem_cons_self (List.mem_cons_of_mem _ List.mem_cons_self) _ s

end WriteBack

/-! ### Every instruction -/

theorem decodedOf_fits (i : Instr) {t : Traits} (ht : traitsOf (decodedOf i).di.mode = some t) :
    t.Fits (decodedOf i).di.src (decodedOf i).di.dst := by
  rcases hd : decodedOf i with ⟨h, di⟩
  rw [hd] at ht
  cases i
  all_goals
    cases hd
    cases ht
    constructor <;> simp

theorem exists_ok_of_condition {ε α : Type} {P : α → Prop} {x : Except ε α} {c : Bool} {yes no : α}
    (hx : x = if c = true then .ok yes else .ok no) (hyes : c = true → P yes) (hno : c = false → P no) :
    ∃ r, x = .ok r ∧ P r := by
  subst hx
  cases c with
  | true => exact ⟨yes, rfl, hyes rfl⟩
  | false => exact ⟨no, rfl, hno rfl⟩

@[simp] theorem writeFlag_get16_hl (rb : RegisterBank) (f : Flag) (v : Bool) :
    (rb.writeFlag f v).get16 .hl = rb.get16 .hl := rfl

@[simp] theorem applyInc8_get16_hl (v : Byte) (rb : RegisterBank) : (applyInc8 v rb).2.get16 .hl = rb.get16 .hl := by
  simp only [applyInc8, RegisterBank.writeZnh, writeFlag_get16_hl]

@[simp] theorem applyDec8_get16_hl (v : Byte) (rb : RegisterBank) : (applyDec8 v rb).2.get16 .hl = rb.get16 .hl := by
  simp only [applyDec8, RegisterBank.writeZnh, writeFlag_get16_hl]

@[simp] theorem applyShift_get16_hl (op : ShiftOp) (v : Byte) (rb : RegisterBank) :
    (applyShift op v rb).2.get16 .hl = rb.get16 .hl := by
  simp only [applyShift, RegisterBank.writeFlags, writeFlag_get16_hl]

/-- No Execute of the table fails, and one whose condition holds leaves the addresses of step 5 as the instruction's
operands and the registers before it give them. -/
theorem decodedOf_result (i : Instr) {t : Traits} (ht : traitsOf (decodedOf i).di.mode = some t)
    (rb : RegisterBank) (a b c : Byte) :
    ∃ r, (decodedOf i).handler.result rb ((decodedOf i).di.acquired t a b c) = .ok r
      ∧ (r.2.2 = false → t.storeAddresses r.2.1 r.1 = storedAddresses i rb) := by
  have one {p : Word} (h : p = rb.get16 .hl) : [p] = [rb.get16 .hl] := congrArg (fun a => [a]) h
  cases i
  all_goals cases ht
  case jrCc cc e => exact exists_ok_of_condition (c := conditionHolds rb cc.code) rfl (fun _ _ => rfl) nofun
  case retCc cc => exact exists_ok_of_condition (c := conditionHolds rb cc.code) rfl (fun _ _ => rfl) nofun
  case jpCc cc nn => exact exists_ok_of_condition (c := conditionHolds rb cc.code) rfl (fun _ _ => rfl) nofun
  case callCc cc nn =>
    refine exists_ok_of_condition (c := conditionHolds rb cc.code) rfl (fun h _ => ?_) nofun
    rw [conditionHolds_code] at h
    exact (if_pos h).symm
  case ldIndNnSp nn => exact ⟨_, rfl, fun _ => congrArg (fun a => [a, a + 1]) (join_hi_lo nn)⟩
  case ldIndNnA nn => exact ⟨_, rfl, fun _ => congrArg (fun a => [a]) (join_hi_lo nn)⟩
  case incIndHl => exact ⟨_, rfl, fun _ => one (applyInc8_get16_hl a rb)⟩
  case decIndHl => exact ⟨_, rfl, fun _ => one (applyDec8_get16_hl a rb)⟩
  case rlcIndHl | rrcIndHl | rlIndHl | rrIndHl | slaIndHl | sraIndHl | swapIndHl | srlIndHl =>
    exact ⟨_, rfl, fun _ => one (applyShift_get16_hl _ a rb)⟩
  all_goals exact ⟨_, rfl, fun _ => rfl⟩

/-- Only the five LDU ask for the source of User (R135). -/
theorem requestsUserSource_eq_isLdu (i : Instr) : (decodedOf i).di.requestsUserSource = i.isLdu := by
  cases i <;> rfl

/-- The scope of the source reads once `sig.umsor` is decided (R140). -/
theorem sourceScope_withUmsor (s : State) (v : Bool) :
    sourceScope (s.withUmsor v) = if v = true then .user else s.level := rfl

/-- A mode that steps its source pair stores nothing (R139). -/
theorem wb_of_stepsSource {m : AddressingMode} {t : Traits} (ht : traitsOf m = some t)
    (h : (t.incSrc || t.decSrc) = true) : t.wb = .skip := by
  revert h
  cases m <;> cases ht <;> simp

/-- Steps 4 and 5 of an instruction, after its step 3 led from `s` to `u`. -/
theorem executeStep_writeBack_onlyUnmapped (i : Instr) {t : Traits} (ht : traitsOf (decodedOf i).di.mode = some t)
    {src : SecurityLevel} {s u : State} (hu : s.Reads t u) (a b c : Byte) :
    OnlyUnmapped src s (s.Stores (· ∈ storedAddresses i s.regs))
      (executeStep (decodedOf i).handler ((decodedOf i).di.acquired t a b c) u
        >>= fun p => writeBack t p.1 p.2) := by
  obtain ⟨⟨rb, di', failed⟩, hr, haddr⟩ := decodedOf_result i ht u.regs a b c
  have hends := Handler.Footprint.ends (di := (decodedOf i).di.acquired t a b c) u.regs (decodedOf_footprint i)
  rw [hr] at hends
  obtain ⟨⟨-, x, y, rfl⟩, -⟩ := hends
  rw [executeStep_of_ok hr, ok_bind]
  dsimp only
  have hv := ((hu.stores.regs rb).sig (u.sig.ended (decodedOf i).di.opcode failed)).mono
    (here' := (· ∈ storedAddresses i s.regs)) fun _ => False.elim
  cases failed with
  | true =>
    rw [writeBack_aborted rfl]
    exact yields_ok hv
  | false =>
    refine (writeBack_onlyUnmapped (di := { (decodedOf i).di.acquired t a b c with res1 := x, res2 := y })
      (decodedOf_fits i ht) _).from hv.sameRouting fun w hw => hv.trans (hw.mono fun p hp => ?_)
    cases hstep : t.incSrc || t.decSrc with
    | true =>
      simp only [Traits.storeAddresses, wb_of_stepsSource ht hstep, List.not_mem_nil] at hp
    | false =>
      rw [← hu.regs hstep, ← haddr rfl]
      exact hp

/-- Everything an instruction does to memory, and its one way to fault. -/
theorem exec_onlyUnmapped (i : Instr) (s : State) :
    OnlyUnmapped (if i.isLdu = true then .user else s.level) s (s.Stores (· ∈ storedAddresses i s.regs))
      (runSteps (decodedOf i).handler (decodedOf i).di s) := by
  unfold runSteps
  obtain ⟨t, ht⟩ := traitsOf_total (decodedOf i).di.mode
  simp only [ht, requestsUserSource_eq_isLdu]
  have hs : s.Stores (· ∈ storedAddresses i s.regs) (s.withUmsor i.isLdu) := State.Stores.refl.sig _
  rw [← sourceScope_withUmsor]
  refine OnlyUnmapped.from (t := s.withUmsor i.isLdu) ?_ hs.sameRouting fun _ => hs.trans
  refine (acquire_onlyUnmapped (decodedOf_fits i ht) _).bind ?_
  rintro ⟨_, u⟩ ⟨⟨a, b, c, rfl⟩, hu⟩
  exact executeStep_writeBack_onlyUnmapped i ht hu a b c

theorem exec_stores {i : Instr} {s t : State} (h : exec i s = .next t) :
    s.Stores (· ∈ storedAddresses i s.regs) t :=
  (exec_onlyUnmapped i s).of_next ((exec_eq_finish i s).symm.trans h)

/-- Settles O26: a cycle is accesses, and its byte writes are to the stored addresses. -/
theorem memoryFrame : Obligations.MemoryFrame := by
  unfold Obligations.MemoryFrame
  intro i s t h sc b
  have hstores := exec_stores h
  exact ⟨hstores.sameRouting.cellAt_eq sc b, hstores.plainByte_eq⟩

/-- Settles O28: no Execute of the table fails, and every register field has the width of its use. -/
theorem onlyMemoryUnmapped : Obligations.OnlyMemoryUnmapped := by
  unfold Obligations.OnlyMemoryUnmapped
  intro i s _
  have hx := exec_onlyUnmapped i s
  rw [exec_eq_finish]
  cases hr : runSteps (decodedOf i).handler (decodedOf i).di s with
  | ok t => exact .inl ⟨t, rfl⟩
  | error f =>
    rw [hr] at hx
    obtain ⟨a, t, rfl, ha⟩ := hx
    refine .inr ⟨a, t, rfl, ha.elim .inl fun hsrc => ?_⟩
    cases hl : i.isLdu with
    | true => exact .inr ⟨rfl, by simpa [hl] using hsrc⟩
    | false => exact .inl (by simpa [hl] using hsrc)

end Sys2Proof.Machine
end

section
/-! SUPPORT. The fetch (spec/40_pipeline.md R131, R141): what it leaves where it faults, and that it stores nothing.
With it, the invariant of the routing tables over every step (spec/20_memory.md R63 to R69). -/

namespace Sys2Proof.Machine

/-! ### A faulting fetch -/

theorem isPrefixByte_iff {b : Byte} : isPrefixByte b = true ↔ b ∈ ([0xCB, 0xDD, 0xFD, 0xFC] : List Byte) :=
  List.contains_iff_mem

theorem fetchOpcode_fault_first {s : State} (h : s.accessible s.level s.regs.pc = false) :
    fetchOpcode s = .error (.memoryUnmapped s.regs.pc s) := by
  unfold fetchOpcode; rw [fetchByte_fault h]; rfl

/-- PIR is written and PC advanced before the second fetch (R131). -/
theorem fetchOpcode_fault_second {s : State} {b : Byte} (hp : isPrefixByte b = true)
    (hb : s.plainByte s.level s.regs.pc = some b) (h : s.accessible s.level (s.regs.pc + 1) = false) :
    fetchOpcode s = .error (.memoryUnmapped (s.regs.pc + 1)
      (s.withRegs { s.regs with pc := s.regs.pc + 1, pir := b })) := by
  unfold fetchOpcode
  rw [fetchByte_plain hb]
  simp only [ok_bind, hp, if_true]
  rw [fetchByte_fault (s := s.advancePc.withRegs (s.advancePc.regs.set8 .pir b)) h]
  rfl

theorem runCycle_fetch_fault {s : State} {f : Fault} (h : fetchOpcode s = .error f) : runCycle s = .fault f := by
  unfold runCycle fetchInstr; rw [h]

/-- Settles O57: by the two fetches that can fault. -/
theorem fetchFaults : Obligations.FetchFaults := by
  unfold Obligations.FetchFaults
  intro s
  exact ⟨fun h => runCycle_fetch_fault (fetchOpcode_fault_first h), fun b hb hplain h =>
    runCycle_fetch_fault (fetchOpcode_fault_second (isPrefixByte_iff.2 hb) hplain h)⟩

/-! ### A fetch stores nothing -/

section Fetch

variable {here : Word → Prop}

theorem fetchByte_stores (s : State) : Ensures (fun p => s.Stores here p.2) (fetchByte s) := by
  refine (fetchByte_ensures s).mono ?_
  rintro _ rfl
  exact (State.Stores.refl.read _ _).regs _

theorem fetchOpcode_stores (s : State) : Ensures (s.Stores here) (fetchOpcode s) := by
  refine (fetchByte_stores (here := here) s).bind fun p hp => ?_
  dsimp only
  split
  · exact (fetchByte_stores (here := here) _).bind fun q hq => ensures_ok (((hp.regs _).trans hq).regs _)
  · exact ensures_ok (hp.regs _)

theorem fetchOperands_stores (t : Template) (s : State) :
    Ensures (fun p => s.Stores here p.2) (fetchOperands t s) := by
  cases t with
  | op0 i => exact ensures_ok .refl
  | op1 f => exact (fetchByte_stores s).bind fun p hp => ensures_ok hp
  | op2 f => exact (fetchByte_stores s).bind fun p hp => (fetchByte_stores p.2).bind fun q hq =>
      ensures_ok (hp.trans hq)

/-- The state that a fetch without a fault ends in. -/
def Fetched.EndsIn (P : State → Prop) : Fetched → Prop
  | .fault _ => True
  | .noOp t => P t
  | .instr _ t => P t

theorem fetchInstr_stores (s : State) : (fetchInstr s).EndsIn (s.Stores here) := by
  unfold fetchInstr
  cases ho : fetchOpcode s with
  | error f => trivial
  | ok u =>
    have hu : s.Stores here u := fetchOpcode_stores s u ho
    dsimp only
    cases lookup u.regs.pir u.regs.ir with
    | unmapped => exact (hu.sig _).sig _
    | badRegister => trivial
    | found t =>
      dsimp only
      cases hp : fetchOperands t (u.withUmsor t.isLdu) with
      | error f => trivial
      | ok p => exact (hu.sig _).trans (fetchOperands_stores t _ p hp)

/-- A cycle is accesses. -/
theorem runCycle_stores {s t : State} (h : runCycle s = .next t) : s.Stores (fun _ => True) t := by
  have hf := fetchInstr_stores (here := fun _ => True) s
  unfold runCycle at h
  cases hi : fetchInstr s with
  | fault f => rw [hi] at h; cases h
  | noOp u => rw [hi] at h hf; cases h; exact hf
  | instr i u =>
    rw [hi] at h hf
    exact State.Stores.trans hf ((exec_stores h).mono fun _ _ => trivial)

end Fetch

/-! ### Accesses keep the invariant -/

theorem Backing.wf_store {m : Backing} (hm : m.wf) {k : Nat} (hk : k < m.size) (v : Byte) : (m.store k v).wf := by
  obtain ⟨hbytes, hsize⟩ := hm
  refine ⟨Memory.wf_write hbytes k v, fun c hc => ?_⟩
  rcases Memory.mem_write hc with rfl | hc
  · exact hk
  · exact hsize c hc

theorem Backing.wf_load {m : Backing} (hm : m.wf) {k : Nat} {vs : List Byte} (hk : k + vs.length ≤ m.size) :
    (m.load k vs).wf := by
  obtain ⟨hbytes, hsize⟩ := hm
  refine ⟨Memory.wf_load hbytes k vs, fun c hc => ?_⟩
  rcases Memory.mem_load hc with ⟨-, hlt⟩ | hc
  · exact Nat.lt_of_lt_of_le hlt hk
  · exact hsize c hc

theorem Backing.wf_canonical (m : Backing) : m.canonical.wf := Memory.wf_ofCells m.size m.bytes

/-- One backing resource changed to one that is well formed. -/
theorem backings_wf_modify {ms : List Backing} (h : ∀ m ∈ ms, m.wf) {k : Nat} {f : Backing → Backing}
    (hf : ∀ m, ms[k]? = some m → (f m).wf) : ∀ m ∈ ms.modify k f, m.wf := by
  intro m hm
  obtain ⟨j, hj⟩ := List.mem_iff_getElem?.1 hm
  rw [List.getElem?_modify] at hj
  obtain ⟨q, hq, hqm⟩ := Option.map_eq_some_iff.1 hj
  split at hqm
  · next hkj => exact hqm ▸ hf q (hkj ▸ hq)
  · exact hqm ▸ h q (List.mem_of_getElem? hq)

theorem Resource.wf_congr {ms ms' : List Backing} {n : Nat} {r : Resource}
    (hs : ms'.map Backing.size = ms.map Backing.size) (h : r.wf ms n) : r.wf ms' n := by
  obtain ⟨hrange, hsize, hhandle⟩ := h
  refine ⟨hrange, ?_, hhandle⟩
  rw [← List.getElem?_map] at hsize ⊢
  rw [hs, hsize]

/-- The invariant depends on the routing and on the bytes of the backing resources. -/
theorem State.wf_of_sameRouting {s t : State} (hw : s.wf) (h : s.SameRouting t) (hb : ∀ m ∈ t.backings, m.wf) :
    t.wf := by
  obtain ⟨-, hresource, hresources, hmapped⟩ := hw
  refine ⟨hb, fun r hr => ?_, h.resources ▸ hresources, h.mapped ▸ hmapped⟩
  rw [h.resources] at hr
  rw [h.nextHandle]
  exact Resource.wf_congr h.sizes (hresource r hr)

theorem Resource.offset_lt_size {r : Resource} {a : Word} (h : r.contains a = true) : r.offset a < r.size := by
  simp only [Resource.contains, Bool.and_eq_true, decide_eq_true_eq] at h
  unfold Resource.offset Resource.size
  omega

theorem State.wf_afterRead {s : State} (hw : s.wf) (sc : SecurityLevel) (a : Word) : (s.afterRead sc a).wf :=
  State.wf_of_sameRouting hw (sameRouting_afterRead s sc a) (by rw [afterRead_backings]; exact hw.1)

theorem State.wf_afterWrite {s : State} (hw : s.wf) (sc : SecurityLevel) (a : Word) (v : Byte) :
    (s.afterWrite sc a v).wf := by
  refine State.wf_of_sameRouting hw (sameRouting_afterWrite s sc a v) ?_
  rw [afterWrite_backings]
  split
  · next c hc =>
    unfold State.cellAt at hc
    cases hr : s.route sc a with
    | device i => rw [hr] at hc; cases hc
    | unmapped => rw [hr] at hc; cases hc
    | resource r =>
      rw [hr] at hc
      cases hc
      obtain ⟨m, hm, hsize⟩ := State.backing_of_mem hw (covers_of_route hr).1
      refine backings_wf_modify hw.1 fun q hq => ?_
      cases hm.symm.trans hq
      exact Backing.wf_store (hw.1 m (List.mem_of_getElem? hm))
        (hsize.symm ▸ Resource.offset_lt_size (contains_of_route hr)) v
  · exact hw.1

theorem State.Stores.wf {here : Word → Prop} {s t : State} (h : s.Stores here t) (hw : s.wf) : t.wf := by
  induction h with
  | refl => exact hw
  | read sc a _ ih => exact State.wf_afterRead ih sc a
  | write v _ _ ih => exact State.wf_afterWrite ih _ _ v
  | regs rb _ ih => exact ih
  | sig g _ ih => exact ih

/-! ### The outer loop's calls keep the invariant -/

theorem listed_getElem? {α : Type} {known : List α} {k : Nat} {x : α} (h : known[k]? = some x)
    (object : ObjectRef α) : (object.listed known)[k]? = some x := by
  obtain ⟨hk, -⟩ := List.getElem?_eq_some_iff.1 h
  cases object with
  | known _ => exact h
  | fresh y => exact (List.getElem?_append_left hk).trans h

/-- A registration keeps its backing resource and handle where an object joins the list and a handle is given out. -/
theorem Resource.wf_listed {ms : List Backing} {n : Nat} {r : Resource} (object : ObjectRef Backing)
    (h : r.wf ms n) : r.wf (object.listed ms) (n + 1) := by
  obtain ⟨hrange, hsize, hhandle⟩ := h
  obtain ⟨m, hm, hms⟩ := Option.map_eq_some_iff.1 hsize
  exact ⟨hrange, by rw [listed_getElem? hm, Option.map_some, hms], Nat.lt_succ_of_lt hhandle⟩

/-- The backing resource that a call brings is taken in canonical form. -/
theorem listed_canonical_wf {ms : List Backing} (h : ∀ m ∈ ms, m.wf) (object : ObjectRef Backing) :
    ∀ m ∈ object.canonical.listed ms, m.wf := by
  intro m hm
  cases object with
  | known k => exact h m hm
  | fresh m' =>
    rcases List.mem_append.1 hm with hm | hm
    · exact h m hm
    · cases List.mem_singleton.1 hm
      exact Backing.wf_canonical m'

/-- One backing resource changed, its size kept. -/
theorem sameRouting_modify (s : State) (k : Nat) {f : Backing → Backing} (hf : ∀ m, (f m).size = m.size) :
    s.SameRouting (s.withBackings (s.backings.modify k f)) := by
  refine ⟨rfl, List.ext_getElem? fun j => ?_, rfl, rfl, rfl, rfl, rfl⟩
  simp only [withBackings_backings, List.getElem?_map, List.getElem?_modify]
  cases s.backings[j]? with
  | none => rfl
  | some m =>
    simp only [Option.map_some, Option.map_eq_map]
    split
    · rw [hf]
    · rfl

theorem writeRegister_wf {s : State} (hw : s.wf) (x : Register) (v : Word) : (writeRegister x v s).wf := by
  cases x <;> exact hw

/-- The state an answered or failed host call leaves. -/
def HostOutcome.Leaves (P : State → Prop) : HostOutcome → Prop
  | .reply _ t => P t
  | .fault f => P f.left
  | .refused _ => True

/-- A call that is one access answers where the access completes and fails where it faults. -/
theorem leaves_of_yields {α : Type} {P : State → Prop} {x : Except Fault α} {st : α → State} {o : HostOutcome}
    (hx : Yields (fun f => P f.left) (fun a => P (st a)) x) (hok : ∀ a, x = .ok a → ∃ r, o = .reply r (st a))
    (hfault : ∀ f, x = .error f → o = .fault f) : o.Leaves P := by
  cases x with
  | ok a => obtain ⟨r, rfl⟩ := hok a rfl; exact hx
  | error f => rw [hfault f rfl]; exact hx

section Host

variable {s : State} (hw : s.wf)

include hw

theorem memRead_leaves_wf (a : Word) : Yields (fun f => f.left.wf) (fun p => p.2.wf) (memRead a s) := by
  cases ha : s.accessible s.level a with
  | true => rw [memRead_ok ha]; exact yields_ok (State.wf_afterRead hw _ _)
  | false => rw [memRead_fault ha]; exact yields_error hw

theorem memWrite_leaves_wf (a : Word) (v : Byte) : Yields (fun f => f.left.wf) State.wf (memWrite a v s) := by
  cases ha : s.accessible s.level a with
  | true => rw [memWrite_ok ha]; exact yields_ok (State.wf_afterWrite hw _ _ _)
  | false => rw [memWrite_fault ha]; exact yields_error hw

theorem memReadWord_leaves_wf (a : Word) : Yields (fun f => f.left.wf) (fun p => p.2.wf) (memReadWord a s) :=
  (memRead_leaves_wf hw a).bind fun _ hp => (memRead_leaves_wf hp (a + 1)).bind fun _ hq => yields_ok hq

theorem memWriteWord_leaves_wf (a v : Word) : Yields (fun f => f.left.wf) State.wf (memWriteWord a v s) :=
  (memWrite_leaves_wf hw a (lo v)).bind fun _ ht => memWrite_leaves_wf ht (a + 1) (hi v)

/-- A new registration stands with the others, over its backing resource. -/
theorem registerResource_leaves_wf (object : ObjectRef Backing) (first last : Word) (tag : Privilege) :
    (registerResource object first last tag s).Leaves State.wf := by
  by_cases h : s.canRegisterResource object first last tag
  · rw [registerResource_ok h]
    obtain ⟨hle, hsize, hfree⟩ := h
    obtain ⟨hbackings, hresource, hresources, hmapped⟩ := hw
    refine ⟨listed_canonical_wf hbackings object, fun r hr => ?_,
      List.pairwise_cons.2 ⟨fun r hr => ?_, hresources⟩, hmapped⟩
    · rcases List.mem_cons.1 hr with rfl | hr
      · exact ⟨hle, hsize, Nat.lt_succ_self _⟩
      · exact Resource.wf_listed _ (hresource r hr)
    · exact ⟨hfree r hr, Nat.ne_of_gt (hresource r hr).2.2⟩
  · rw [registerResource_fails h]
    exact hw

theorem unregisterResource_leaves_wf (handle : Nat) (tag : Privilege) :
    (unregisterResource handle tag s).Leaves State.wf := by
  unfold unregisterResource
  split
  · obtain ⟨hbackings, hresource, hresources, hmapped⟩ := hw
    exact ⟨hbackings, fun r hr => hresource r (List.mem_filter.1 hr).1, hresources.filter _, hmapped⟩
  · exact hw

theorem registerMapped_leaves_wf (object : ObjectRef Device) (a : Word) (tag : Privilege) :
    (registerMapped object a tag s).Leaves State.wf := by
  by_cases h : s.canRegisterMapped object a tag
  · rw [registerMapped_ok h]
    obtain ⟨hbackings, hresource, hresources, hmapped⟩ := hw
    exact ⟨hbackings, hresource, hresources, List.pairwise_cons.2 ⟨h.2, hmapped⟩⟩
  · rw [registerMapped_fails h]
    exact hw

theorem unregisterMapped_leaves_wf (a : Word) (tag : Privilege) :
    (unregisterMapped a tag s).Leaves State.wf := by
  unfold unregisterMapped
  split
  · obtain ⟨hbackings, hresource, hresources, hmapped⟩ := hw
    exact ⟨hbackings, hresource, hresources, hmapped.filter _⟩
  · exact hw

theorem loadBytes_leaves_wf (buffer : List Byte) (dest : Word) : (loadBytes buffer dest s).Leaves State.wf := by
  unfold loadBytes
  cases hr : s.resourceAt s.level dest with
  | none => exact hw
  | some r =>
    dsimp only
    split
    · next hfits =>
      obtain ⟨m, hm, hsize⟩ := State.backing_of_mem hw (State.resourceAt_some hr).1
      refine State.wf_of_sameRouting hw (sameRouting_modify s _ fun _ => rfl) (backings_wf_modify hw.1 fun q hq => ?_)
      cases hm.symm.trans hq
      exact Backing.wf_load (hw.1 m (List.mem_of_getElem? hm)) (hsize.symm ▸ hfits)
    · exact hw

/-- Every call keeps the invariant, whether it answers or fails. -/
theorem hostMove_leaves_wf (m : HostMove) : (hostMove m s).Leaves State.wf := by
  cases m with
  | query q => exact hw
  | securityLevel => exact hw
  | setSecurityLevel level => exact hw
  | readRegister x => exact hw
  | writeRegister x v => exact writeRegister_wf hw x v
  | readWireRegister x =>
    dsimp only [hostMove]
    cases Config.debugWireMap x <;> exact hw
  | writeWireRegister x v =>
    dsimp only [hostMove]
    cases Config.debugWireMap x with
    | none => exact hw
    | some y => exact writeRegister_wf hw y v
  | readByte a =>
    exact leaves_of_yields (memRead_leaves_wf hw a) (fun _ h => ⟨_, hostMove_readByte_ok h⟩)
      fun _ h => hostMove_readByte_fault h
  | readWord a =>
    exact leaves_of_yields (memReadWord_leaves_wf hw a) (fun _ h => ⟨_, hostMove_readWord_ok h⟩)
      fun _ h => hostMove_readWord_fault h
  | writeByte a v =>
    exact leaves_of_yields (memWrite_leaves_wf hw a v) (fun _ h => ⟨_, hostMove_writeByte_ok h⟩)
      fun _ h => hostMove_writeByte_fault h
  | writeWord a v =>
    exact leaves_of_yields (memWriteWord_leaves_wf hw a v) (fun _ h => ⟨_, hostMove_writeWord_ok h⟩)
      fun _ h => hostMove_writeWord_fault h
  | registerResource object first last tag => exact registerResource_leaves_wf hw object first last tag
  | unregisterResource handle tag => exact unregisterResource_leaves_wf hw handle tag
  | registerMapped object a tag => exact registerMapped_leaves_wf hw object a tag
  | unregisterMapped a tag => exact unregisterMapped_leaves_wf hw a tag
  | load buffer dest bank =>
    cases bank with
    | none => exact loadBytes_leaves_wf hw buffer dest
    | some k => trivial
  | switchBank bank slot => trivial

end Host

theorem runHostMoves_wf {ms : List HostMove} {s t : State} (hw : s.wf) (h : runHostMoves ms s = .ok t) : t.wf := by
  induction ms generalizing s with
  | nil => cases h; exact hw
  | cons m ms ih =>
    have hm := hostMove_leaves_wf hw m
    rw [runHostMoves] at h
    cases ho : hostMove m s with
    | reply r u => rw [ho] at h hm; exact ih hm h
    | fault f => rw [ho] at h hm; exact ih hm h
    | refused r => rw [ho] at h; cases h

/-- The answer to the signals writes the level alone. -/
theorem answerSignals_wf {s : State} (hw : s.wf) : (answerSignals s).wf := by
  unfold answerSignals
  split
  · split <;> exact hw
  · exact hw

/-- Settles O30: the outer loop's turn keeps the invariant call by call, and the cycle is accesses. -/
theorem stepKeepsRouting : Obligations.StepKeepsRouting := by
  unfold Obligations.StepKeepsRouting
  intro s t hw h
  unfold step at h
  cases ht : hostTurn s with
  | error r => rw [ht] at h; cases h
  | ok u =>
    rw [ht] at h
    have hu : u.wf := runHostMoves_wf (s := (answerSignals s).withHostMoves []) (answerSignals_wf hw) ht
    exact (runCycle_stores h).wf hu

end Sys2Proof.Machine
end

section
/-! SUPPORT. Two runs that differ in hidden bytes only (spec/20_memory.md R62, R91): every step of a cycle whose
accesses are in one scope goes the same way with other bytes in the backing resources that the scope sees no
registration of, and leaves those bytes alone. -/

namespace Sys2Proof.Machine

/-! ### Other hidden bytes -/

section Unseen

variable {s : State} {sc : SecurityLevel} {bytes : Nat → Memory}

@[simp] theorem withUnseen_regs : (s.withUnseen sc bytes).regs = s.regs := rfl
@[simp] theorem withUnseen_level : (s.withUnseen sc bytes).level = s.level := rfl
@[simp] theorem withUnseen_sig : (s.withUnseen sc bytes).sig = s.sig := rfl
@[simp] theorem withUnseen_devices : (s.withUnseen sc bytes).devices = s.devices := rfl
@[simp] theorem withUnseen_outerLoop : (s.withUnseen sc bytes).outerLoop = s.outerLoop := rfl

@[simp] theorem withUmsor_withUnseen (v : Bool) :
    (s.withUnseen sc bytes).withUmsor v = (s.withUmsor v).withUnseen sc bytes := rfl

@[simp] theorem route_withUnseen (sc' : SecurityLevel) (a : Word) :
    (s.withUnseen sc bytes).route sc' a = s.route sc' a := rfl

@[simp] theorem sourceScope_withUnseen : sourceScope (s.withUnseen sc bytes) = sourceScope s := rfl

@[simp] theorem sees_withBackings (ms : List Backing) (k : Nat) :
    (s.withBackings ms).sees sc k = s.sees sc k := rfl

/-- A backing resource that the scope sees is as it was. -/
theorem withUnseen_getElem? {k : Nat} (h : s.sees sc k = true) :
    (s.withUnseen sc bytes).backings[k]? = s.backings[k]? := by
  simp only [State.withUnseen, withBackings_backings, List.getElem?_mapIdx, h, if_true, Option.map_id']

/-- The scope sees the registration that an access in it reaches (R62). -/
theorem sees_of_route {a : Word} {r : Resource} (h : s.route sc a = .resource r) : s.sees sc r.backing = true := by
  obtain ⟨hr, hc⟩ := covers_of_route h
  exact List.any_eq_true.2 ⟨r, hr, by simp [(Resource.covers_iff.1 hc).1]⟩

/-- A read in the scope gives the same byte. -/
theorem readValue_withUnseen (a : Word) : (s.withUnseen sc bytes).readValue sc a = s.readValue sc a := by
  unfold State.readValue
  rw [route_withUnseen]
  cases hr : s.route sc a with
  | device i => rfl
  | unmapped => rfl
  | resource r =>
    simp only [State.resourceByte, readBacking, withUnseen_getElem? (sees_of_route hr)]

theorem afterRead_withUnseen (a : Word) :
    (s.withUnseen sc bytes).afterRead sc a = (s.afterRead sc a).withUnseen sc bytes := by
  unfold State.afterRead
  rw [route_withUnseen]
  cases s.route sc a with
  | device i =>
    simp only [State.afterDeviceRead, withUnseen_devices]
    split <;> rfl
  | unmapped => rfl
  | resource r => rfl

/-- A byte written to a backing resource that the scope sees leaves the hidden bytes alone. -/
theorem storeByte_withUnseen {r : Resource} (h : s.sees sc r.backing = true) (a : Word) (v : Byte) :
    (s.withUnseen sc bytes).storeByte r a v = (s.storeByte r a v).withUnseen sc bytes := by
  refine congrArg s.withBackings (List.ext_getElem? fun j => ?_)
  simp only [storeBacking, State.storeByte, State.withUnseen, withBackings_backings, sees_withBackings,
    List.getElem?_modify, List.getElem?_mapIdx]
  cases s.backings[j]? with
  | none => rfl
  | some m =>
    by_cases hj : r.backing = j
    · subst hj; simp [h]
    · simp only [hj, if_false, Option.map_some, Option.map_eq_map]
      rfl

theorem afterWrite_withUnseen (a : Word) (v : Byte) :
    (s.withUnseen sc bytes).afterWrite sc a v = (s.afterWrite sc a v).withUnseen sc bytes := by
  unfold State.afterWrite
  rw [route_withUnseen]
  cases hr : s.route sc a with
  | device i => rfl
  | unmapped => rfl
  | resource r => exact storeByte_withUnseen (sees_of_route hr) a v

end Unseen

/-! ### Two computations that go the same way -/

/-- `x'` goes the way of `x`: it completes with the value of `x`, which satisfies `P`, changed by `g`, or it faults as
`x` does with the state left changed by `f`. -/
def Mirrors {α : Type} (f : State → State) (g : α → α) (P : α → Prop) (x x' : Except Fault α) : Prop :=
  match x with
  | .ok a => P a ∧ x' = .ok (g a)
  | .error k => x' = .error (k.mapLeft f)

section Mirrors

variable {α β : Type} {f : State → State} {g : α → α} {P : α → Prop} {g' : β → β} {P' : β → Prop}
  {x x' : Except Fault α}

theorem mirrors_ok {a : α} (h : P a) : Mirrors f g P (.ok a) (.ok (g a)) := ⟨h, rfl⟩

theorem Mirrors.bind {k k' : α → Except Fault β} (hx : Mirrors f g P x x')
    (hk : ∀ a, P a → Mirrors f g' P' (k a) (k' (g a))) : Mirrors f g' P' (x >>= k) (x' >>= k') := by
  cases x with
  | error e => cases hx; exact rfl
  | ok a => obtain ⟨ha, rfl⟩ := hx; exact hk a ha

/-- The outcomes of two cycles that go the same way. -/
theorem Mirrors.finish {P : State → Prop} {x x' : Except Fault State} (h : Mirrors f f P x x') :
    finish x' = mapOutcome f (finish x) := by
  cases x with
  | error e => cases h; rfl
  | ok t => obtain ⟨-, rfl⟩ := h; rfl

end Mirrors

/-! ### The steps of a cycle -/

/-- Every access of steps 3 to 5 is in the scope. -/
def State.Within (sc : SecurityLevel) (s : State) : Prop := s.level = sc ∧ (s.sig.umsor = true → sc = .user)

section Cycle

variable {sc : SecurityLevel} {bytes : Nat → Memory} {s : State} {t : Traits} {di : DecodedInstruction}

/-- Two computations of a state that go the same way but for the bytes hidden from the scope. -/
abbrev Blind (sc : SecurityLevel) (bytes : Nat → Memory) (x x' : Except Fault State) : Prop :=
  Mirrors (·.withUnseen sc bytes) (·.withUnseen sc bytes) (State.Within sc) x x'

/-- Two computations of a value and a state: the same value, the states alike but for the hidden bytes. -/
abbrev BlindPair {α : Type} (sc : SecurityLevel) (bytes : Nat → Memory) (x x' : Except Fault (α × State)) : Prop :=
  Mirrors (·.withUnseen sc bytes) (fun p => (p.1, p.2.withUnseen sc bytes)) (fun p => p.2.Within sc) x x'

theorem State.Within.sourceScope_eq (h : s.Within sc) : sourceScope s = sc := by
  obtain ⟨hlevel, humsor⟩ := h
  unfold sourceScope
  split
  · next hu => exact (humsor hu).symm
  · exact hlevel

theorem State.Within.afterRead (h : s.Within sc) (sc' : SecurityLevel) (a : Word) : (s.afterRead sc' a).Within sc := by
  unfold State.Within
  rw [afterRead_level, afterRead_sig]
  exact h

theorem State.Within.afterWrite (h : s.Within sc) (sc' : SecurityLevel) (a : Word) (v : Byte) :
    (s.afterWrite sc' a v).Within sc := by
  unfold State.Within
  rw [afterWrite_level, afterWrite_sig]
  exact h

theorem orBankError_blind {α : Type} (x : BankResult α) (s : State) :
    Mirrors (·.withUnseen sc bytes) id (fun _ => True) (orBankError x s) (orBankError x (s.withUnseen sc bytes)) := by
  cases x with
  | ok v => exact ⟨trivial, rfl⟩
  | error rb => exact rfl

theorem memReadScope_blind (hs : s.Within sc) (a : Word) :
    BlindPair sc bytes (memReadScope sc a s) (memReadScope sc a (s.withUnseen sc bytes)) := by
  cases ha : s.accessible sc a with
  | true =>
    rw [memReadScope_ok ha, memReadScope_ok (s := s.withUnseen sc bytes) ha, readValue_withUnseen, afterRead_withUnseen]
    exact mirrors_ok (hs.afterRead sc a)
  | false =>
    rw [memReadScope_fault ha, memReadScope_fault (s := s.withUnseen sc bytes) ha]
    exact rfl

theorem memRead_blind (hs : s.Within sc) (a : Word) :
    BlindPair sc bytes (memRead a s) (memRead a (s.withUnseen sc bytes)) := by
  unfold memRead
  rw [withUnseen_level, hs.1]
  exact memReadScope_blind hs a

theorem memWrite_blind (hs : s.Within sc) (a : Word) (v : Byte) :
    Blind sc bytes (memWrite a v s) (memWrite a v (s.withUnseen sc bytes)) := by
  cases ha : s.accessible s.level a with
  | true =>
    rw [memWrite_ok ha, memWrite_ok (s := s.withUnseen sc bytes) ha, withUnseen_level, hs.1, afterWrite_withUnseen]
    exact mirrors_ok (hs.afterWrite sc a v)
  | false =>
    rw [memWrite_fault ha, memWrite_fault (s := s.withUnseen sc bytes) ha]
    exact rfl

theorem stepSrc_blind (hs : s.Within sc) :
    Blind sc bytes (stepSrc t di s) (stepSrc t di (s.withUnseen sc bytes)) := by
  unfold stepSrc
  split
  · exact (orBankError_blind _ s).bind fun _ _ => (orBankError_blind _ s).bind fun _ _ => mirrors_ok hs
  · exact mirrors_ok hs

theorem stepDst_blind (hs : s.Within sc) :
    Blind sc bytes (stepDst t di s) (stepDst t di (s.withUnseen sc bytes)) := by
  unfold stepDst
  split
  · exact (orBankError_blind _ s).bind fun _ _ => (orBankError_blind _ s).bind fun _ _ => mirrors_ok hs
  · exact mirrors_ok hs

theorem acquireOp1_blind (hs : s.Within sc) :
    BlindPair sc bytes (acquireOp1 t di s) (acquireOp1 t di (s.withUnseen sc bytes)) := by
  unfold acquireOp1
  cases t.op1 with
  | skip => exact mirrors_ok hs
  | atPC => exact mirrors_ok hs
  | implicitReg =>
    exact (orBankError_blind _ s).bind fun _ _ => (memRead_blind hs _).bind fun _ hq => mirrors_ok hq
  | atRegister =>
    refine (orBankError_blind _ s).bind fun p _ => ?_
    rw [sourceScope_withUnseen, hs.sourceScope_eq]
    exact (memReadScope_blind hs p).bind fun _ hq => (stepSrc_blind hq).bind fun _ hu => mirrors_ok hu

theorem acquireOp2_blind (hs : s.Within sc) :
    BlindPair sc bytes (acquireOp2 t di s) (acquireOp2 t di (s.withUnseen sc bytes)) := by
  unfold acquireOp2
  cases t.op2 with
  | skip => exact mirrors_ok hs
  | atPC => exact mirrors_ok hs
  | atComposed =>
    exact (orBankError_blind _ s).bind fun _ _ => (memRead_blind hs _).bind fun _ hq => mirrors_ok hq
  | direct =>
    refine (orBankError_blind _ s).bind fun p _ => ?_
    rw [sourceScope_withUnseen, hs.sourceScope_eq]
    exact (memReadScope_blind hs p).bind fun _ hq => (stepSrc_blind hq).bind fun _ hu => mirrors_ok hu
  | implicitImm => exact (memRead_blind hs _).bind fun _ hq => mirrors_ok hq

theorem acquireOp3_blind (hs : s.Within sc) :
    BlindPair sc bytes (acquireOp3 t di s) (acquireOp3 t di (s.withUnseen sc bytes)) := by
  unfold acquireOp3
  split
  · exact (memRead_blind hs _).bind fun _ hq => mirrors_ok hq
  · exact mirrors_ok hs

theorem acquire_blind (hs : s.Within sc) :
    BlindPair sc bytes (acquire t di s) (acquire t di (s.withUnseen sc bytes)) :=
  (acquireOp1_blind hs).bind fun _ hp => (acquireOp2_blind hp).bind fun _ hq => acquireOp3_blind hq

/-- Step 4 sees the RegisterBank and the signals only (R151). -/
theorem executeStep_blind (h : Handler) (hs : s.Within sc) :
    BlindPair sc bytes (executeStep h di s) (executeStep h di (s.withUnseen sc bytes)) := by
  cases hr : h.result s.regs di with
  | error rb =>
    rw [executeStep_of_error hr, executeStep_of_error (s := s.withUnseen sc bytes) hr]
    exact rfl
  | ok r =>
    obtain ⟨rb, di', failed⟩ := r
    rw [executeStep_of_ok hr, executeStep_of_ok (s := s.withUnseen sc bytes) hr]
    refine mirrors_ok ⟨hs.1, fun hu => hs.2 ?_⟩
    rwa [withSig_sig, ended_eq] at hu

theorem pushResult_blind (hs : s.Within sc) :
    Blind sc bytes (pushResult di s) (pushResult di (s.withUnseen sc bytes)) :=
  (memWrite_blind hs _ _).bind fun _ ht => (memWrite_blind ht _ _).bind fun _ hu => mirrors_ok hu

theorem writeBack_blind (hs : s.Within sc) :
    Blind sc bytes (writeBack t di s) (writeBack t di (s.withUnseen sc bytes)) := by
  unfold writeBack
  rw [withUnseen_sig]
  split
  · exact mirrors_ok hs
  cases t.wb with
  | skip => exact mirrors_ok hs
  | atOperandAddress => exact (orBankError_blind _ s).bind fun _ _ => memWrite_blind hs _ _
  | atRegister =>
    exact (orBankError_blind _ s).bind fun _ _ => (memWrite_blind hs _ _).bind fun _ ht => stepDst_blind ht
  | atComposed => exact memWrite_blind hs _ _
  | implicitReg => exact (orBankError_blind _ s).bind fun _ _ => memWrite_blind hs _ _
  | implicitImm => exact memWrite_blind hs _ _
  | pairAtSP => exact pushResult_blind hs
  | pairAtImm => exact (memWrite_blind hs _ _).bind fun _ ht => memWrite_blind ht _ _

/-- The cycle of an instruction in its one scope: at System it may not ask for the source of User. -/
theorem runSteps_blind (h : Handler) (hlevel : s.level = sc) (hu : di.requestsUserSource = true → sc = .user) :
    Blind sc bytes (runSteps h di s) (runSteps h di (s.withUnseen sc bytes)) := by
  unfold runSteps
  obtain ⟨t, ht⟩ := traitsOf_total di.mode
  simp only [ht, withUmsor_withUnseen]
  have hs : (s.withUmsor di.requestsUserSource).Within sc := ⟨hlevel, hu⟩
  exact (acquire_blind hs).bind fun _ hp => (executeStep_blind h hp).bind fun _ hq => writeBack_blind hq

theorem exec_blind (i : Instr) (hlevel : s.level = sc) (hu : i.isLdu = true → sc = .user) :
    exec i (s.withUnseen sc bytes) = mapOutcome (·.withUnseen sc bytes) (exec i s) := by
  rw [exec_eq_finish, exec_eq_finish]
  exact (runSteps_blind _ hlevel (requestsUserSource_eq_isLdu i ▸ hu)).finish

/-! ### The fetch -/

theorem fetchByte_blind (hs : s.Within sc) :
    BlindPair sc bytes (fetchByte s) (fetchByte (s.withUnseen sc bytes)) :=
  (memRead_blind hs _).bind fun _ hp => mirrors_ok hp

theorem fetchOpcode_blind (hs : s.Within sc) :
    Blind sc bytes (fetchOpcode s) (fetchOpcode (s.withUnseen sc bytes)) := by
  refine (fetchByte_blind hs).bind fun p hp => ?_
  dsimp only
  split
  · exact (fetchByte_blind (s := p.2.withRegs (p.2.regs.set8 .pir p.1)) hp).bind fun _ hq => mirrors_ok hq
  · exact mirrors_ok hp

theorem fetchOperands_blind (tm : Template) (hs : s.Within sc) :
    BlindPair sc bytes (fetchOperands tm s) (fetchOperands tm (s.withUnseen sc bytes)) := by
  cases tm with
  | op0 i => exact mirrors_ok hs
  | op1 f => exact (fetchByte_blind hs).bind fun _ hp => mirrors_ok hp
  | op2 f => exact (fetchByte_blind hs).bind fun _ hp => (fetchByte_blind hp).bind fun _ hq => mirrors_ok hq

end Cycle

/-! ### The statement -/

/-- At User every scope is User: LDU reads what every other instruction reads (R91). -/
theorem within_user {s : State} (h : s.level = .user) : s.Within .user := ⟨h, fun _ => rfl⟩

theorem runCycle_blind {s : State} (h : s.level = .user) (bytes : Nat → Memory) :
    runCycle (s.withUnseen .user bytes) = mapOutcome (·.withUnseen .user bytes) (runCycle s) := by
  have ho := fetchOpcode_blind (bytes := bytes) (within_user h)
  unfold runCycle fetchInstr
  cases hx : fetchOpcode s with
  | error f =>
    rw [hx] at ho
    rw [show fetchOpcode (s.withUnseen .user bytes) = _ from ho]
    rfl
  | ok u =>
    rw [hx] at ho
    obtain ⟨hu, ho⟩ := ho
    rw [ho]
    dsimp only
    rw [withUnseen_regs]
    cases lookup u.regs.pir u.regs.ir with
    | unmapped => rfl
    | badRegister => rfl
    | found tm =>
      have hp := fetchOperands_blind (bytes := bytes) tm (s := u.withUmsor tm.isLdu) (within_user hu.1)
      dsimp only
      cases hy : fetchOperands tm (u.withUmsor tm.isLdu) with
      | error f =>
        rw [hy] at hp
        rw [withUmsor_withUnseen, show fetchOperands tm ((u.withUmsor tm.isLdu).withUnseen .user bytes) = _ from hp]
        rfl
      | ok p =>
        rw [hy] at hp
        obtain ⟨hv, hp⟩ := hp
        rw [withUmsor_withUnseen, hp]
        exact exec_blind p.1 hv.1 fun _ => rfl

theorem answerSignals_withUnseen (s : State) (sc : SecurityLevel) (bytes : Nat → Memory) :
    answerSignals (s.withUnseen sc bytes) = (answerSignals s).withUnseen sc bytes := by
  unfold answerSignals
  rw [withUnseen_outerLoop, withUnseen_sig]
  split
  · split <;> rfl
  · rfl

theorem answerSignals_level_user {s : State} (h : s.level = .user) : (answerSignals s).level = .user := by
  unfold answerSignals
  split
  · split
    · rfl
    · exact h
  · exact h

/-- Settles O34: at User every access is in the scope of User, and at System only LDU leaves the scope of System. -/
theorem hiddenBytesPlayNoPart : Obligations.HiddenBytesPlayNoPart := by
  unfold Obligations.HiddenBytesPlayNoPart
  refine ⟨fun s bytes hm hl => ?_, fun i s bytes hi hl => exec_blind i hl fun h => absurd h (by simp [hi])⟩
  unfold step
  rw [hostTurn_nil hm, hostTurn_nil (s := s.withUnseen .user bytes) hm, answerSignals_withUnseen]
  exact runCycle_blind (answerSignals_level_user hl) bytes

end Sys2Proof.Machine
end

section
/-! SUPPORT. The opcode table (spec/30_encoding.md R105 to R110, R116): which keys a row matches, which opcodes a page
maps, and what looking up a key gives. -/

namespace Sys2Proof

open Machine

/-! ### The key of a row -/

/-- A key matches a row byte by byte (R116). -/
theorem Row.accepts_iff {row : Row} {pir ir : Byte} :
    row.accepts pir ir = true
      ↔ pir &&& hi row.mask = hi row.pattern ∧ ir &&& lo row.mask = lo row.pattern ∧ row.guard ir = true := by
  have hand : join pir ir &&& row.mask = join (pir &&& hi row.mask) (ir &&& lo row.mask) := by
    conv_lhs => rw [← join_hi_lo row.mask]
    exact BitVec.and_append
  have hkey : join pir ir &&& row.mask = row.pattern
      ↔ pir &&& hi row.mask = hi row.pattern ∧ ir &&& lo row.mask = lo row.pattern := by
    rw [hand]
    refine ⟨fun h => by rw [← h, hi_join, lo_join]; exact ⟨rfl, rfl⟩, fun ⟨h1, h2⟩ => ?_⟩
    rw [h1, h2, join_hi_lo]
  rw [Row.accepts, Bool.and_eq_true, beq_iff_eq, hkey, and_assoc]

/-- No opcode matches both rows: their patterns differ in a bit that both masks keep, or a guard tells them apart. -/
def Row.apart (a b : Row) : Bool :=
  a.pattern &&& b.mask != b.pattern &&& a.mask
    || decide (∀ ir : Byte, ¬(ir &&& lo a.mask = lo a.pattern ∧ ir &&& lo b.mask = lo b.pattern
      ∧ a.guard ir = true ∧ b.guard ir = true))

theorem Row.not_accepts_of_apart {a b : Row} (h : a.apart b = true) {pir ir : Byte} (ha : a.accepts pir ir = true) :
    b.accepts pir ir = false := by
  rw [Bool.eq_false_iff]
  intro hb
  rw [Row.apart, Bool.or_eq_true, bne_iff_ne, decide_eq_true_eq] at h
  rcases h with h | h
  · rw [Row.accepts, Bool.and_eq_true, beq_iff_eq] at ha hb
    rw [← ha.1, ← hb.1] at h
    exact h (by rw [BitVec.and_assoc, BitVec.and_comm a.mask, ← BitVec.and_assoc])
  · obtain ⟨-, halo, haguard⟩ := Row.accepts_iff.1 ha
    obtain ⟨-, hblo, hbguard⟩ := Row.accepts_iff.1 hb
    exact h ir ⟨halo, hblo, haguard, hbguard⟩

/-! ### The pages -/

/-- The pages that have rows (R105 to R109). -/
def pages : List Byte := [0x00, 0xCB, 0xDD, 0xFD, 0xFC]

theorem pageRows_eq_nil {pir : Byte} (h : pir ∉ pages) : pageRows pir = [] := by
  have hempty : ∀ pir : Byte, pir ∉ pages → (pageRows pir).isEmpty = true := by decide
  exact List.isEmpty_iff.1 (hempty pir h)

/-- What holds of each of the five pages, and of a page with no row, holds of the page of any PIR. -/
theorem pageRows_cases {P : Byte → List Row → Prop} (primary : P 0x00 primaryRows) (cb : P 0xCB cbRows)
    (dd : P 0xDD ddRows) (fd : P 0xFD fdRows) (fc : P 0xFC fcRows) (other : ∀ pir, pir ∉ pages → P pir [])
    (pir : Byte) : P pir (pageRows pir) := by
  by_cases hpir : pir ∈ pages
  · simp only [pages, List.mem_cons, List.not_mem_nil, or_false] at hpir
    rcases hpir with rfl | rfl | rfl | rfl | rfl
    exacts [primary, cb, dd, fd, fc]
  · rw [pageRows_eq_nil hpir]
    exact other pir hpir

/-- What holds of every row of the five pages holds of every row that a lookup can find. -/
theorem forall_pageRows {P : Byte → Row → Prop} (primary : ∀ row ∈ primaryRows, P 0x00 row)
    (cb : ∀ row ∈ cbRows, P 0xCB row) (dd : ∀ row ∈ ddRows, P 0xDD row) (fd : ∀ row ∈ fdRows, P 0xFD row)
    (fc : ∀ row ∈ fcRows, P 0xFC row) (pir : Byte) : ∀ row ∈ pageRows pir, P pir row :=
  pageRows_cases (P := fun pir rows => ∀ row ∈ rows, P pir row) primary cb dd fd fc
    (fun _ _ _ h => absurd h List.not_mem_nil) pir

theorem pir_of_accepts {p pir ir : Byte} {row : Row} (hrow : row ∈ pageRows p) (h : row.accepts pir ir = true) :
    pir = p := by
  have hkey : ∀ row ∈ pageRows p, hi row.mask = 0xFF ∧ hi row.pattern = p :=
    forall_pageRows (P := fun p row => hi row.mask = 0xFF ∧ hi row.pattern = p)
      (by decide) (by decide) (by decide) (by decide) (by decide) p
  obtain ⟨hpir, -, -⟩ := Row.accepts_iff.1 h
  obtain ⟨hmask, hpattern⟩ := hkey row hrow
  rw [hmask, hpattern] at hpir
  exact BitVec.and_allOnes.symm.trans hpir

/-! ### The whole table -/

/-- The 145 rows (R105 to R109). -/
def opcodeTable : List Row := primaryRows ++ cbRows ++ ddRows ++ fdRows ++ fcRows

theorem filter_pageRows_eq_nil {p pir : Byte} (h : pir ≠ p) (ir : Byte) :
    ((pageRows p).filter fun row => row.accepts pir ir) = [] :=
  List.filter_eq_nil_iff.2 fun _ hrow hacc => h (pir_of_accepts hrow hacc)

/-- Only rows of the page of PIR match a key. -/
theorem filter_opcodeTable (pir ir : Byte) :
    (opcodeTable.filter fun row => row.accepts pir ir) = (pageRows pir).filter fun row => row.accepts pir ir := by
  have htable : opcodeTable = pageRows 0x00 ++ pageRows 0xCB ++ pageRows 0xDD ++ pageRows 0xFD ++ pageRows 0xFC := rfl
  simp only [htable, List.filter_append]
  by_cases hpir : pir ∈ pages
  · simp only [pages, List.mem_cons, List.not_mem_nil, or_false] at hpir
    rcases hpir with rfl | rfl | rfl | rfl | rfl
    all_goals simp [filter_pageRows_eq_nil]
  · rw [pageRows_eq_nil hpir]
    simp only [pages, List.mem_cons, List.not_mem_nil, or_false, not_or] at hpir
    obtain ⟨h1, h2, h3, h4, h5⟩ := hpir
    simp only [filter_pageRows_eq_nil h1, filter_pageRows_eq_nil h2, filter_pageRows_eq_nil h3,
      filter_pageRows_eq_nil h4, filter_pageRows_eq_nil h5, List.append_nil, List.filter_nil]

theorem any_opcodeTable (pir ir : Byte) :
    (opcodeTable.any fun row => row.accepts pir ir) = (pageRows pir).any fun row => row.accepts pir ir := by
  have hany : ∀ rows : List Row, (rows.any fun row => row.accepts pir ir)
      = (rows.filter fun row => row.accepts pir ir).any fun _ => true := fun rows => by simp [List.any_filter]
  rw [hany, filter_opcodeTable, ← hany]

theorem length_filter_pageRows_le_one (pir ir : Byte) :
    ((pageRows pir).filter fun row => row.accepts pir ir).length ≤ 1 := by
  have hapart : (pageRows pir).Pairwise fun a b => a.apart b = true :=
    pageRows_cases (P := fun _ rows => rows.Pairwise fun a b => a.apart b = true)
      (by decide) (by decide) (by decide) (by decide) (by decide) (fun _ _ => List.Pairwise.nil) pir
  have hfilter := hapart.filter fun row => row.accepts pir ir
  have hacc : ∀ row ∈ (pageRows pir).filter fun row => row.accepts pir ir, row.accepts pir ir = true :=
    fun row h => (List.mem_filter.1 h).2
  generalize ((pageRows pir).filter fun row => row.accepts pir ir) = rows at hfilter hacc ⊢
  match rows with
  | [] => exact Nat.zero_le 1
  | [_] => exact Nat.le_refl 1
  | a :: b :: rest =>
    have hab : a.apart b = true := (List.pairwise_cons.1 hfilter).1 b List.mem_cons_self
    have hb := Row.not_accepts_of_apart hab (hacc a List.mem_cons_self)
    exact absurd (hacc b (List.mem_cons_of_mem a List.mem_cons_self)) (by rw [hb]; decide)

/-! ### Which opcodes are mapped (R105, R107 to R110) -/

/-- The unmapped opcodes of the primary page (R110), and `PREFIX_BYTES` (R9). -/
def unmappedPrimary : List Byte := [0xD3, 0xDB, 0xE3, 0xE4, 0xEB, 0xEC, 0xED, 0xF4, 0xCB, 0xDD, 0xFD, 0xFC]

/-- The opcodes of an index page (R108). -/
def indexOpcodes : List Byte :=
  [0x09, 0x19, 0x29, 0x39, 0x21, 0x23, 0x2B, 0x46, 0x4E, 0x56, 0x5E, 0x66, 0x6E, 0x7E, 0x70, 0x71, 0x72, 0x73, 0x74,
    0x75, 0x77, 0x86, 0x8E, 0x96, 0x9E, 0xA6, 0xAE, 0xB6, 0xBE, 0xE1, 0xE5, 0xE9, 0xF9]

/-- The opcodes of the privilege extension (R109). -/
def privilegeOpcodes : List Byte := [0x46, 0x4E, 0x56, 0x5E, 0x66, 0x6E, 0x7E, 0x0A, 0x1A, 0x2A, 0x3A, 0xC3]

theorem any_primaryRows :
    ∀ ir : Byte, ((pageRows 0x00).any fun row => row.accepts 0x00 ir) = !unmappedPrimary.contains ir := by decide

theorem any_cbRows : ∀ ir : Byte, ((pageRows 0xCB).any fun row => row.accepts 0xCB ir) = true := by decide

theorem any_ddRows :
    ∀ ir : Byte, ((pageRows 0xDD).any fun row => row.accepts 0xDD ir) = indexOpcodes.contains ir := by
  decide

theorem any_fdRows :
    ∀ ir : Byte, ((pageRows 0xFD).any fun row => row.accepts 0xFD ir) = indexOpcodes.contains ir := by
  decide

theorem any_fcRows :
    ∀ ir : Byte, ((pageRows 0xFC).any fun row => row.accepts 0xFC ir) = privilegeOpcodes.contains ir := by
  decide

/-! ### How many opcodes are mapped -/

/-- As many opcodes stand in a list without repetition as it is long. -/
theorem length_filter_contains {opcodes : List Byte} (h : opcodes.Nodup) :
    ((List.range 256).filter fun k => opcodes.contains (BitVec.ofNat 8 k)).length = opcodes.length := by
  have hperm : ((List.range 256).filter fun k => opcodes.contains (BitVec.ofNat 8 k)).Perm
      (opcodes.map BitVec.toNat) := by
    rw [List.perm_ext_iff_of_nodup (List.nodup_range.filter _) (h.map fun _ _ => BitVec.eq_of_toNat_eq)]
    intro k
    simp only [List.mem_filter, List.mem_range, List.contains_iff_mem, List.mem_map]
    constructor
    · rintro ⟨hk, hmem⟩
      exact ⟨_, hmem, BitVec.toNat_ofNat k 8 ▸ Nat.mod_eq_of_lt hk⟩
    · rintro ⟨b, hb, rfl⟩
      exact ⟨b.isLt, by simpa using hb⟩
  rw [hperm.length_eq, List.length_map]

theorem length_filter_not_contains {opcodes : List Byte} (h : opcodes.Nodup) :
    ((List.range 256).filter fun k => !opcodes.contains (BitVec.ofNat 8 k)).length = 256 - opcodes.length := by
  have hsplit := List.length_eq_length_filter_add (l := List.range 256)
    fun k => opcodes.contains (BitVec.ofNat 8 k)
  rw [List.length_range, length_filter_contains h] at hsplit
  omega

/-- Settles O18: two rows of a page are apart, and each page is counted by the list of its opcodes. -/
theorem opcodeTableIsUnambiguous : Obligations.OpcodeTableIsUnambiguous := by
  unfold Obligations.OpcodeTableIsUnambiguous
  have htable : primaryRows ++ cbRows ++ ddRows ++ fdRows ++ fcRows = opcodeTable := rfl
  simp only [htable, filter_opcodeTable, any_opcodeTable, any_primaryRows, any_cbRows, any_ddRows, any_fdRows,
    any_fcRows]
  refine ⟨rfl, length_filter_pageRows_le_one, ?_, ?_, ?_, ?_, ?_⟩
  · exact length_filter_not_contains (by decide)
  · rw [List.filter_true, List.length_range]
  · exact length_filter_contains (by decide)
  · exact length_filter_contains (by decide)
  · exact length_filter_contains (by decide)

/-! ### Looking up a key (R37, R133) -/

theorem lookup_of_any_eq_false {pir ir : Byte} (h : ((pageRows pir).any fun row => row.accepts pir ir) = false) :
    lookup pir ir = .unmapped := by
  have hnone : (pageRows pir).find? (fun row => row.accepts pir ir) = none := by
    simpa [List.find?_eq_none] using h
  rw [lookup, hnone]

theorem isSome_bind_some {α β : Type} (x : Option α) (f : α → β) : (x.bind fun a => some (f a)).isSome = x.isSome := by
  cases x <;> rfl

theorem isSome_bind {α β : Type} {x : Option α} {f : α → Option β} (hx : x.isSome = true)
    (hf : ∀ a, (f a).isSome = true) : (x.bind f).isSome = true := by
  cases x with
  | none => cases hx
  | some a => exact hf a

theorem isSome_reg8OfCode_fieldY {ir : Byte} (h : fieldY ir ≠ 6) : (reg8OfCode (fieldY ir)).isSome = true := by
  revert ir; decide

theorem isSome_reg8OfCode_fieldZ {ir : Byte} (h : fieldZ ir ≠ 6) : (reg8OfCode (fieldZ ir)).isSome = true := by
  revert ir; decide

theorem isSome_pairOfCode_fieldP (ir : Byte) : (pairOfCode (fieldP ir)).isSome = true := by
  revert ir; decide

theorem isSome_stackPairOfCode_fieldP (ir : Byte) : (stackPairOfCode (fieldP ir)).isSome = true := by
  revert ir; decide

theorem isSome_ixPairOfCode_fieldP (ir : Byte) : (ixPairOfCode (fieldP ir)).isSome = true := by
  revert ir; decide

theorem isSome_iyPairOfCode_fieldP (ir : Byte) : (iyPairOfCode (fieldP ir)).isSome = true := by
  revert ir; decide

theorem isSome_condOfCode_fieldCc (ir : Byte) : (condOfCode (fieldCc ir)).isSome = true := by
  revert ir; decide

/-- A row's guard excludes the one register code that names no register (R34, R116). -/
theorem pageRows_build_isSome (pir : Byte) :
    ∀ row ∈ pageRows pir, ∀ ir, row.guard ir = true → (row.build ir).isSome = true := by
  refine forall_pageRows (P := fun _ row => ∀ ir, row.guard ir = true → (row.build ir).isSome = true)
    ?_ ?_ ?_ ?_ ?_ pir
  all_goals
    simp +contextual only [primaryRows, primaryRows1, primaryRows2, primaryRows3, primaryRows4, primaryRows5, cbRows,
      cbRows1, cbRows2, ddRows, fdRows, fcRows, List.forall_mem_append, List.forall_mem_cons, List.not_mem_nil,
      false_imp_iff, implies_true, and_true, Bool.and_eq_true, bne_iff_ne, ne_eq, not_false_eq_true,
      Option.isSome_some, isSome_bind_some, isSome_bind, isSome_reg8OfCode_fieldY, isSome_reg8OfCode_fieldZ,
      isSome_pairOfCode_fieldP, isSome_stackPairOfCode_fieldP, isSome_ixPairOfCode_fieldP,
      isSome_iyPairOfCode_fieldP, isSome_condOfCode_fieldCc]

/-- A lookup finds no row, or the Decode of a row that matches: no Decode of the table fails (R37, R133). -/
theorem lookup_cases (pir ir : Byte) :
    lookup pir ir = .unmapped
    ∨ ∃ row ∈ pageRows pir, row.accepts pir ir = true ∧ ∃ t, row.build ir = some t ∧ lookup pir ir = .found t := by
  cases hfind : (pageRows pir).find? (fun row => row.accepts pir ir) with
  | none => exact .inl (by rw [lookup, hfind])
  | some row =>
    have hrow : row ∈ pageRows pir := List.mem_of_find?_eq_some hfind
    have hacc : row.accepts pir ir = true := List.find?_some (p := fun row : Row => row.accepts pir ir) hfind
    obtain ⟨-, -, hguard⟩ := Row.accepts_iff.1 hacc
    obtain ⟨t, hbuild⟩ := Option.isSome_iff_exists.1 (pageRows_build_isSome pir row hrow ir hguard)
    exact .inr ⟨row, hrow, hacc, t, hbuild, by simp only [lookup, hfind, hbuild]⟩

theorem lookup_ne_badRegister (pir ir : Byte) : lookup pir ir ≠ .badRegister := by
  rcases lookup_cases pir ir with h | ⟨_, -, -, t, -, h⟩
  all_goals
    rw [h]
    exact Lookup.noConfusion

theorem row_of_lookup_found {pir ir : Byte} {t : Template} (h : lookup pir ir = .found t) :
    ∃ row ∈ pageRows pir, row.accepts pir ir = true ∧ row.build ir = some t := by
  rcases lookup_cases pir ir with hl | ⟨row, hrow, hacc, u, hbuild, hl⟩
  · cases hl.symm.trans h
  · cases hl.symm.trans h
    exact ⟨row, hrow, hacc, hbuild⟩

end Sys2Proof
end

section
/-! SUPPORT. The encoder against the decoder (spec/30_encoding.md R100 to R109): a row's Decode against the encoder, and
the two round trips. -/

namespace Sys2Proof

open Machine

/-! ### Which terms have bytes -/

theorem Reg8.isSome_code (r : Reg8) : r.code.isSome = r.hasCode := by cases r <;> rfl
theorem Reg16.isSome_pairCode (p : Reg16) : p.pairCode.isSome = p.hasPairCode := by cases p <;> rfl
theorem Reg16.isSome_stackCode (p : Reg16) : p.stackCode.isSome = p.hasStackCode := by cases p <;> rfl
theorem Reg16.isSome_ixCode (p : Reg16) : p.ixCode.isSome = p.hasIxCode := by cases p <;> rfl
theorem Reg16.isSome_iyCode (p : Reg16) : p.iyCode.isSome = p.hasIyCode := by cases p <;> rfl

/-- A term has bytes exactly when it is well formed: both ask for the codes of its registers. -/
theorem isSome_encode (i : Instr) : (encode i).isSome = i.wellFormed := by
  cases i
  case ldRR r r' => exact Laws.Encodable.ldRR r r'
  all_goals
    simp only [encode, Instr.wellFormed, Option.isSome_some, isSome_bind_some, Reg8.isSome_code, Reg16.isSome_pairCode,
      Reg16.isSome_stackCode, Reg16.isSome_ixCode, Reg16.isSome_iyCode]

/-! ### Decoding reads no further than the instruction -/

theorem decodeOpcode_ok {pir ir : Byte} {bytes rest : List Byte} {i : Instr}
    (h : decodeOpcode pir ir bytes = .ok (i, rest)) :
    ∃ t, lookup pir ir = .found t ∧ t.fill bytes = .ok (i, rest) := by
  unfold decodeOpcode at h
  cases hl : lookup pir ir with
  | unmapped => rw [hl] at h; cases h
  | badRegister => rw [hl] at h; cases h
  | found t => rw [hl] at h; exact ⟨t, rfl, h⟩

theorem decodeOpcode_of_found {pir ir : Byte} {t : Template} (h : lookup pir ir = .found t) (bytes : List Byte) :
    decodeOpcode pir ir bytes = t.fill bytes := by
  rw [decodeOpcode, h]

/-- The opcode bytes of the key (PIR, IR) (R100, R101). -/
def opcodeBytes (pir ir : Byte) : List Byte := if pir = 0 then [ir] else [pir, ir]

theorem opcodeBytes_zero (ir : Byte) : opcodeBytes 0 ir = [ir] := rfl

theorem opcodeBytes_of_isPrefixByte {pir : Byte} (h : isPrefixByte pir = true) (ir : Byte) :
    opcodeBytes pir ir = [pir, ir] := by
  refine if_neg ?_
  rintro rfl
  exact absurd h (by decide)

/-- The keys that a fetch forms (R131): PIR is in `PREFIX_BYTES`, or 0 with an opcode that is not. -/
def FetchedKey (pir ir : Byte) : Prop := isPrefixByte pir = true ∨ pir = 0 ∧ isPrefixByte ir = false

theorem decode_opcodeBytes {pir ir : Byte} (h : FetchedKey pir ir) (tail : List Byte) :
    decode (opcodeBytes pir ir ++ tail) = decodeOpcode pir ir tail := by
  rcases h with h | ⟨rfl, h⟩
  · simp [opcodeBytes_of_isPrefixByte h, decode, h]
  · rw [opcodeBytes_zero]
    simp [decode, h]

/-- What decodes is the opcode bytes of a key that is found, then bytes that fill its template. -/
theorem decode_ok {bytes rest : List Byte} {i : Instr} (h : decode bytes = .ok (i, rest)) :
    ∃ pir ir tail t, FetchedKey pir ir ∧ bytes = opcodeBytes pir ir ++ tail ∧ lookup pir ir = .found t
      ∧ t.fill tail = .ok (i, rest) := by
  match bytes, h with
  | b0 :: bytes, h =>
    cases hp : isPrefixByte b0 with
    | false =>
      simp only [decode, hp, Bool.false_eq_true, if_false] at h
      obtain ⟨t, hlookup, hfill⟩ := decodeOpcode_ok h
      exact ⟨0, b0, bytes, t, .inr ⟨rfl, hp⟩, rfl, hlookup, hfill⟩
    | true =>
      match bytes, h with
      | [], h => simp [decode, hp] at h
      | b1 :: tail, h =>
        simp only [decode, hp, if_true] at h
        obtain ⟨t, hlookup, hfill⟩ := decodeOpcode_ok h
        exact ⟨b0, b1, tail, t, .inl hp, by rw [opcodeBytes_of_isPrefixByte hp]; rfl, hlookup, hfill⟩

/-- What a template takes from the front of the bytes does not depend on what follows. -/
theorem Template.fill_append {t : Template} {bytes rest : List Byte} {i : Instr}
    (h : t.fill bytes = .ok (i, rest)) (more : List Byte) :
    t.fill (bytes ++ more) = .ok (i, rest ++ more) := by
  cases t with
  | op0 j => cases h; rfl
  | op1 f =>
    match bytes, h with
    | x :: tail, h => cases h; rfl
  | op2 f =>
    match bytes, h with
    | x :: y :: tail, h => cases h; rfl

/-- Decoding reads no further than the instruction it finds (R100, R102). -/
theorem decode_append {bytes rest : List Byte} {i : Instr} (h : decode bytes = .ok (i, rest))
    (more : List Byte) : decode (bytes ++ more) = .ok (i, rest ++ more) := by
  obtain ⟨pir, ir, tail, t, hkey, rfl, hlookup, hfill⟩ := decode_ok h
  rw [List.append_assoc, decode_opcodeBytes hkey, decodeOpcode_of_found hlookup, Template.fill_append hfill]

/-! ### From an instruction to its bytes and back -/

theorem exists_join (v : Word) : ∃ a b, v = join a b := ⟨hi v, lo v, (join_hi_lo v).symm⟩

/-- The bytes of an instruction decode to it: for each value of its register, pair, condition or bit field the opcode
is a key of one row, and an operand word is the join of its two bytes. -/
theorem decode_of_encode {i : Instr} {own : List Byte} (h : encode i = some own) :
    decode own = .ok (i, []) := by
  cases i
  case incR r | decR r | ldRN r n | ldRIndHl r | ldIndHlR r | addAR r | adcAR r | subR r | sbcAR r | andR r | xorR r
      | orR r | cpR r | rlcR r | rrcR r | rlR r | rrR r | slaR r | sraR r | swapR r | srlR r | ldRIndIx r d
      | ldRIndIy r d | lduRIndHl r =>
    cases r <;> cases h <;> rfl
  case ldIndIxR d r | ldIndIyR d r => cases r <;> cases h <;> rfl
  case ldRR r r' => cases r <;> cases r' <;> cases h <;> rfl
  case incSs p | decSs p | addHlSs p | popQq p | pushQq p | addIxPp p | addIyPp p => cases p <;> cases h <;> rfl
  case jrCc cc e | retCc cc => cases cc <;> cases h <;> rfl
  case rst b | bitBIndHl b | resBIndHl b | setBIndHl b => cases h; revert b; decide
  case bitBR b r | resBR b r | setBR b r => cases r <;> cases h <;> (revert b; decide)
  case ldIndNnSp nn | jp nn | call nn | ldIndNnA nn | ldAIndNn nn | ldIxNn nn | ldIyNn nn | jpuNn nn =>
    obtain ⟨a, b, rfl⟩ := exists_join nn
    simp only [encode, lo_join, hi_join] at h
    cases h; rfl
  case ldDdNn p nn =>
    obtain ⟨a, b, rfl⟩ := exists_join nn
    simp only [encode, lo_join, hi_join] at h
    cases p <;> cases h <;> rfl
  case jpCc cc nn | callCc cc nn =>
    obtain ⟨a, b, rfl⟩ := exists_join nn
    simp only [encode, lo_join, hi_join] at h
    cases cc <;> cases h <;> rfl
  all_goals cases h; rfl

/-- Settles O16: a well-formed instruction has bytes, they decode to it, and decoding reads no further. -/
theorem decodeOfEncode : Obligations.DecodeOfEncode := by
  unfold Obligations.DecodeOfEncode
  intro i hi
  obtain ⟨own, hown⟩ := Option.isSome_iff_exists.1 ((isSome_encode i).trans hi)
  exact ⟨own, hown, fun rest => decode_append (decode_of_encode hown) rest⟩

/-! ### An opcode from its pattern and its fields (R103, R114, R115) -/

theorem and_allOnes (ir : Byte) : ir &&& 255#8 = ir := BitVec.and_allOnes

theorem or_fieldY {ir p : Byte} (h : ir &&& 0xC7 = p) : p ||| fieldY ir <<< 3 = ir := by
  subst h; revert ir; decide

theorem or_fieldZ {ir p : Byte} (h : ir &&& 0xF8 = p) : p ||| fieldZ ir = ir := by
  subst h; revert ir; decide

theorem fieldZ_of_and_eq_zero {ir : Byte} (h : ir &&& 0xF8 = 0) : fieldZ ir = ir := by
  simpa using or_fieldZ h

theorem or_fieldY_fieldZ {ir p : Byte} (h : ir &&& 0xC0 = p) : p ||| fieldY ir <<< 3 ||| fieldZ ir = ir := by
  subst h; revert ir; decide

theorem or_fieldP {ir p : Byte} (h : ir &&& 0xCF = p) : p ||| fieldP ir <<< 4 = ir := by
  subst h; revert ir; decide

theorem or_fieldCc {ir p : Byte} (h : ir &&& 0xE7 = p) : p ||| fieldCc ir <<< 3 = ir := by
  subst h; revert ir; decide

theorem bitIndexOf_setWidth (ir : Byte) : (bitIndexOf ir).setWidth 8 = fieldY ir := by
  revert ir; decide

/-! ### The register and condition codes read back (R37, R350) -/

theorem reg8OfCode_eq_some_iff {c : Byte} {r : Reg8} : reg8OfCode c = some r ↔ r.code = some c := by
  obtain ⟨-, -, -, -, -, hreg8, -, -⟩ := registerCodeTables
  exact (hreg8 r c).symm

theorem pairOfCode_eq_some_iff {c : Byte} {p : Reg16} : pairOfCode c = some p ↔ p.pairCode = some c := by
  obtain ⟨-, -, -, -, -, -, hpair, -⟩ := registerCodeTables
  exact (hpair p c).symm

theorem stackPairOfCode_eq_some_iff {c : Byte} {p : Reg16} : stackPairOfCode c = some p ↔ p.stackCode = some c := by
  obtain ⟨-, -, -, -, -, -, -, hstack⟩ := registerCodeTables
  exact (hstack p c).symm

theorem ixPairOfCode_eq_some_iff {c : Byte} {p : Reg16} : ixPairOfCode c = some p ↔ p.ixCode = some c := by
  cases p <;> (revert c; decide)

theorem iyPairOfCode_eq_some_iff {c : Byte} {p : Reg16} : iyPairOfCode c = some p ↔ p.iyCode = some c := by
  cases p <;> (revert c; decide)

theorem condOfCode_eq_some_iff {c : Byte} {cc : Cond} : condOfCode c = some cc ↔ cc.code = c := by
  cases cc <;> (revert c; decide)

/-! ### From bytes to the instruction and back -/

/-- Every instruction the template fills to is encoded as the opcode bytes and the operand bytes it was filled with. -/
def Template.EncodesWith (opcode : List Byte) : Template → Prop
  | .op0 i => encode i = some opcode
  | .op1 f => ∀ x, encode (f x) = some (opcode ++ [x])
  | .op2 f => ∀ v, encode (f v) = some (opcode ++ [lo v, hi v])

theorem Template.EncodesWith.encode_fill {opcode tail rest : List Byte} {t : Template} {i : Instr}
    (ht : t.EncodesWith opcode) (h : t.fill tail = .ok (i, rest)) :
    ∃ operands, encode i = some (opcode ++ operands) ∧ tail = operands ++ rest := by
  cases t with
  | op0 j => cases h; exact ⟨[], by rw [List.append_nil]; exact ht, rfl⟩
  | op1 f =>
    match tail, h with
    | x :: tail, h => cases h; exact ⟨[x], ht x, rfl⟩
  | op2 f =>
    match tail, h with
    | x :: y :: tail, h =>
      cases h
      exact ⟨[x, y], by simpa using ht (join y x), rfl⟩

/-- Each row's Decode against the encoder: outside its fields the opcode is the row's pattern, and a field is the code
of what its table gave. -/
theorem pageRows_encodesWith (pir : Byte) :
    ∀ row ∈ pageRows pir, ∀ ir, row.accepts pir ir = true → ∀ t, row.build ir = some t →
      t.EncodesWith (opcodeBytes pir ir) := by
  refine forall_pageRows
    (P := fun pir row => ∀ ir, row.accepts pir ir = true → ∀ t, row.build ir = some t →
      t.EncodesWith (opcodeBytes pir ir)) ?_ ?_ ?_ ?_ ?_ pir
  all_goals
    simp only [primaryRows, primaryRows1, primaryRows2, primaryRows3, primaryRows4, primaryRows5, cbRows,
      cbRows1, cbRows2, ddRows, fdRows, fcRows, List.forall_mem_append, List.forall_mem_cons,
      List.not_mem_nil, false_imp_iff, implies_true, and_true, Option.bind_eq_some_iff, Row.accepts_iff,
      Option.some.injEq, reg8OfCode_eq_some_iff, pairOfCode_eq_some_iff, stackPairOfCode_eq_some_iff,
      ixPairOfCode_eq_some_iff, iyPairOfCode_eq_some_iff, condOfCode_eq_some_iff, lo, BitVec.reduceExtractLsb',
      and_allOnes, forall_exists_index, and_imp, forall_eq', forall_apply_eq_imp_iff₂]
    and_intros
    all_goals
      intros
      subst_vars
      simp [Template.EncodesWith, encode, opcodeBytes, or_fieldY, or_fieldZ, fieldZ_of_and_eq_zero,
        or_fieldY_fieldZ, or_fieldP, or_fieldCc, bitIndexOf_setWidth, *]

/-- Settles O17: what decodes comes of a row, and the encoder gives back the row's opcode and the operand bytes. -/
theorem encodeOfDecode : Obligations.EncodeOfDecode := by
  unfold Obligations.EncodeOfDecode
  intro bytes rest i h
  obtain ⟨pir, ir, tail, t, -, rfl, hlookup, hfill⟩ := decode_ok h
  obtain ⟨row, hrow, hacc, hbuild⟩ := row_of_lookup_found hlookup
  obtain ⟨operands, hencode, rfl⟩ := (pageRows_encodesWith pir row hrow ir hacc t hbuild).encode_fill hfill
  refine ⟨?_, _, hencode, (List.append_assoc ..).symm⟩
  rw [← isSome_encode, hencode]
  rfl

/-! ### Written-out words -/

/-- Settles O15: each word decodes as the encoder's page has it; 0xD3 is unmapped. -/
theorem decodedWords : Obligations.DecodedWords := by
  unfold Obligations.DecodedWords
  decide

end Sys2Proof
end

section
/-! SUPPORT. The cycle of an unmapped opcode (spec/40_pipeline.md R134), and how a step can end (spec/60_exceptions.md
R430, R434). -/

namespace Sys2Proof.Machine

/-! ### Unmapped opcodes (R110, R113) -/

theorem runCycle_of_unmapped {s t : State} (hf : fetchOpcode s = .ok t)
    (hl : lookup t.regs.pir t.regs.ir = .unmapped) : runCycle s = .next (noOpState t) := by
  rw [← runCycleOf_baseline, runCycleOf_unmapped hf (baseline_unmapped hl)]

theorem lookup_unmappedPrimary {ir : Byte} (h : ir ∈ unmappedPrimary) : lookup 0x00 ir = .unmapped :=
  lookup_of_any_eq_false (by rw [any_primaryRows]; simpa using h)

theorem lookup_index {pir ir : Byte} (hpir : pir = 0xDD ∨ pir = 0xFD) (h : ir ∉ indexOpcodes) :
    lookup pir ir = .unmapped := by
  rcases hpir with rfl | rfl
  · exact lookup_of_any_eq_false (by rw [any_ddRows]; simpa using h)
  · exact lookup_of_any_eq_false (by rw [any_fdRows]; simpa using h)

theorem lookup_privilege {ir : Byte} (h : ir ∉ privilegeOpcodes) : lookup 0xFC ir = .unmapped :=
  lookup_of_any_eq_false (by rw [any_fcRows]; simpa using h)

/-- Settles O20: fetch reads the opcode bytes only, and the lookup finds no row. -/
theorem unmappedOpcodeIsNoOp : Obligations.UnmappedOpcodeIsNoOp := by
  unfold Obligations.UnmappedOpcodeIsNoOp
  intro s b0 b1 hb0
  refine ⟨fun h => ?_, fun hb1 h => ?_⟩
  · have hp : ∀ b ∈ ([0xD3, 0xDB, 0xE3, 0xE4, 0xEB, 0xEC, 0xED, 0xF4] : List Byte),
        isPrefixByte b = false ∧ b ∈ unmappedPrimary := by decide
    obtain ⟨hprefix, hmem⟩ := hp b0 h
    exact runCycle_of_unmapped (fetchOpcode_plain hb0 hprefix) (lookup_unmappedPrimary hmem)
  · have hprefix : isPrefixByte b0 = true := by
      rcases h with ⟨rfl | rfl, -⟩ | ⟨rfl, -⟩ <;> decide
    refine runCycle_of_unmapped (fetchOpcode_plain_prefixed hb0 hb1 hprefix) ?_
    rcases h with ⟨hindex, hb1⟩ | ⟨rfl, hb1⟩
    · exact lookup_index hindex hb1
    · exact lookup_privilege hb1

/-! ### How a step ends (R430, R434) -/

/-- The only fault of the computation is `MemoryUnmapped`. -/
abbrev FaultsUnmapped {α : Type} (x : Except Fault α) : Prop :=
  Yields (fun f => ∃ a t, f = .memoryUnmapped a t) (fun _ => True) x

theorem fetchByte_faultsUnmapped (s : State) : FaultsUnmapped (fetchByte s) := by
  cases h : s.accessible s.level s.regs.pc with
  | true => rw [fetchByte_ok h]; trivial
  | false => rw [fetchByte_fault h]; exact ⟨_, _, rfl⟩

theorem fetchOpcode_faultsUnmapped (s : State) : FaultsUnmapped (fetchOpcode s) := by
  refine (fetchByte_faultsUnmapped s).bind fun p _ => ?_
  dsimp only
  split
  · exact (fetchByte_faultsUnmapped _).bind fun _ _ => trivial
  · trivial

theorem fetchOperands_faultsUnmapped (t : Template) (s : State) : FaultsUnmapped (fetchOperands t s) := by
  cases t with
  | op0 i => trivial
  | op1 f => exact (fetchByte_faultsUnmapped s).bind fun _ _ => trivial
  | op2 f => exact (fetchByte_faultsUnmapped s).bind fun p _ => (fetchByte_faultsUnmapped p.2).bind fun _ _ => trivial

/-- The outcome is a next state or the fault `MemoryUnmapped`. -/
def CompletesOrUnmapped (o : Host.Outcome State Fault Refusal) : Prop :=
  (∃ t, o = .next t) ∨ ∃ a t, o = .fault (.memoryUnmapped a t)

theorem exec_completesOrUnmapped (i : Instr) (s : State) : CompletesOrUnmapped (exec i s) := by
  have hx := exec_onlyUnmapped i s
  rw [exec_eq_finish]
  cases hr : runSteps (decodedOf i).handler (decodedOf i).di s with
  | ok t => exact .inl ⟨t, rfl⟩
  | error f =>
    rw [hr] at hx
    obtain ⟨a, t, rfl, -⟩ := hx
    exact .inr ⟨a, t, rfl⟩

theorem runCycle_completesOrUnmapped (s : State) : CompletesOrUnmapped (runCycle s) := by
  unfold runCycle fetchInstr
  have ho := fetchOpcode_faultsUnmapped s
  cases hopcode : fetchOpcode s with
  | error f =>
    rw [hopcode] at ho
    obtain ⟨a, t, rfl⟩ := ho
    exact .inr ⟨a, t, rfl⟩
  | ok u =>
    dsimp only
    cases hl : lookup u.regs.pir u.regs.ir with
    | unmapped => exact .inl ⟨_, rfl⟩
    | badRegister => exact absurd hl (lookup_ne_badRegister _ _)
    | found t =>
      dsimp only
      have hp := fetchOperands_faultsUnmapped t (u.withUmsor t.isLdu)
      cases hoperands : fetchOperands t (u.withUmsor t.isLdu) with
      | error f =>
        rw [hoperands] at hp
        obtain ⟨a, t, rfl⟩ := hp
        exact .inr ⟨a, t, rfl⟩
      | ok p => exact exec_completesOrUnmapped p.1 p.2

/-- Settles O29: no key fails its Decode, no meaning is refused, and every access faults as `MemoryUnmapped`. -/
theorem stepCompletesOrUnmapped : Obligations.StepCompletesOrUnmapped := by
  unfold Obligations.StepCompletesOrUnmapped
  intro s h
  unfold step
  rw [hostTurn_nil h]
  exact runCycle_completesOrUnmapped (answerSignals s)

end Sys2Proof.Machine
end

section
/-! SUPPORT. The instructions whose operands are all there when step 3 begins (spec/40_pipeline.md R141): steps 4 and 5
from one state on, the two-byte stores (R167, R170), and what each of these instructions does. -/

namespace Sys2Proof.Machine

/-! ### A cycle without a memory operand -/

/-- Where step 3 reads nothing, the cycle is the write-back of what the handler gives. -/
theorem cycle_eq_writeBack {h : Handler} {di di' : DecodedInstruction} {t : Traits} {s : State} {rb : RegisterBank}
    {failed : Bool} (ht : traitsOf di.mode = some t) (ha : ∀ u, acquire t di u = .ok (di, u))
    (hu : di.requestsUserSource = false) (hr : h.result s.regs di = .ok (rb, di', failed)) :
    cycle h di s = finish (writeBack t di'
      ((s.withRegs rb).withSig (({ s.sig with umsor := false } : Signals).ended di'.opcode failed))) := by
  have he := executeStep_of_ok (s := s.withUmsor false) hr
  unfold cycle runSteps
  simp only [ht, hu, ha, he, ok_bind]
  rfl

/-- Step 4 of an identity that raises no signal leaves the quiet signals. -/
theorem ended_of_derive_eq {o : Opcode} (ho : ∀ g : Signals, g.derive o = g) (g : Signals) :
    ({ g with umsor := false } : Signals).ended o false = g.quiet false := ho _

/-! ### HALT, STOP, EI, DI (R163, R381 to R384) -/

/-- An instruction without operands whose Execute does nothing leaves only the signals its identity gives. -/
theorem cycle_nop (o : Opcode) (s : State) :
    cycle handleNop { opcode := o, mode := .register } s = .next (s.withSig ((s.sig.quiet false).derive o)) := by
  rw [cycle_eq_writeBack (h := handleNop) (di := { opcode := o, mode := .register }) (failed := false) traitsOf_register
    (acquire_none (.inl rfl) (.inl rfl) rfl _) (Bool.and_false _) rfl, writeBack_skip rfl]
  rfl

/-- Settles O54: the four are one cycle, of different identities. -/
theorem systemInstructions : Obligations.SystemInstructions := by
  unfold Obligations.SystemInstructions
  intro s
  exact ⟨cycle_nop .halt s, cycle_nop .stop s, cycle_nop .ei s, cycle_nop .di s⟩

/-! ### Two bytes stored -/

/-- `w` stores `x` at `a` and then `y` at `b`, from `s` on: the RegisterBank becomes `rb` after both, and is as it was
where one of them faults (R81, R167, R433). -/
structure StoresTwo (w : Except Fault State) (s : State) (a b : Word) (x y : Byte) (rb : RegisterBank) : Prop where
  both : s.accessible s.level a = true → s.accessible s.level b = true →
    w = .ok (((s.afterWrite s.level a x).afterWrite s.level b y).withRegs rb)
  first : s.accessible s.level a = false → w = .error (.memoryUnmapped a s)
  second : s.accessible s.level a = true → s.accessible s.level b = false →
    w = .error (.memoryUnmapped b (s.afterWrite s.level a x))

theorem pushResult_storesTwo (di : DecodedInstruction) (s : State) :
    StoresTwo (pushResult di s) s (s.regs.sp - 2 + 1) (s.regs.sp - 2) di.res2 di.res1
      { s.regs with sp := s.regs.sp - 2 } where
  both := pushResult_ok
  first ha := by
    simp only [pushResult, memWrite_fault ha, error_bind]
  second ha hb := by
    have hb' : (s.afterWrite s.level (s.regs.sp - 2 + 1) di.res2).accessible
        (s.afterWrite s.level (s.regs.sp - 2 + 1) di.res2).level (s.regs.sp - 2) = false := by simpa using hb
    simp only [pushResult, memWrite_ok ha, ok_bind, memWrite_fault hb', error_bind]

theorem memWriteWord_storesTwo (a v : Word) (s : State) :
    StoresTwo (memWriteWord a v s) s a (a + 1) (lo v) (hi v) s.regs where
  both ha hb := by
    have hself := withRegs_self ((s.afterWrite s.level a (lo v)).afterWrite s.level (a + 1) (hi v))
    rw [afterWrite_regs, afterWrite_regs] at hself
    rw [memWriteWord_ok ha hb, hself]
  first ha := memWriteWord_fault_first ha v
  second ha hb := memWriteWord_fault_second ha hb v

/-- An instruction that reads no memory operand, does not abort and raises no signal, and whose write-back stores two
bytes: `mid` is what its handler makes of the RegisterBank. -/
theorem writesTwoBytes_of_cycle {i : Instr} {h : Handler} {di : DecodedInstruction} {t : Traits}
    {a b : RegisterBank → Word} {x y : RegisterBank → Byte} {mid res : RegisterBank → RegisterBank}
    (hexec : ∀ s, exec i s = cycle h di s) (ht : traitsOf di.mode = some t) (ha : ∀ u, acquire t di u = .ok (di, u))
    (hu : di.requestsUserSource = false)
    (hr : ∀ rb, ∃ di', h.result rb di = .ok (mid rb, di', false) ∧ (∀ g : Signals, g.derive di'.opcode = g)
      ∧ ∀ u : State, u.regs = mid rb → u.sig.aborted = false →
        StoresTwo (writeBack t di' u) u (a rb) (b rb) (x rb) (y rb) (res rb)) :
    WritesTwoBytes i a b x y mid res := by
  intro s
  obtain ⟨di', hok, ho, hw⟩ := hr s.regs
  obtain ⟨both, first, second⟩ := hw (s.done (mid s.regs)) rfl rfl
  have hcycle : exec i s = finish (writeBack t di' (s.done (mid s.regs))) := by
    rw [hexec, cycle_eq_writeBack ht ha hu hok, ended_of_derive_eq ho]
    rfl
  rw [hcycle]
  refine ⟨fun ha hb => ?_, fun ha => ?_, fun ha hb => ?_⟩
  · rw [both ha hb]
    simp [State.done, finish]
  · rw [first ha]
    rfl
  · rw [second ha hb]
    simp [State.done, finish]

/-- A push (R167): the handler leaves the two bytes in the results and SP as it was. -/
theorem writesTwoBytes_of_push {i : Instr} {h : Handler} {di : DecodedInstruction} {t : Traits}
    {v : RegisterBank → Word} {mid : RegisterBank → RegisterBank} (hexec : ∀ s, exec i s = cycle h di s)
    (ht : traitsOf di.mode = some t) (hwb : t.wb = .pairAtSP) (ha : ∀ u, acquire t di u = .ok (di, u))
    (hu : di.requestsUserSource = false) (ho : ∀ g : Signals, g.derive di.opcode = g)
    (hr : ∀ rb, h.result rb di = .ok (mid rb, di.withPairResult (v rb), false)) (hsp : ∀ rb, (mid rb).sp = rb.sp) :
    WritesTwoBytes i (fun rb => rb.sp - 2 + 1) (fun rb => rb.sp - 2) (fun rb => hi (v rb)) (fun rb => lo (v rb)) mid
      (fun rb => { mid rb with sp := rb.sp - 2 }) := by
  refine writesTwoBytes_of_cycle hexec ht ha hu fun rb => ⟨_, hr rb, ho, fun u hregs haborted => ?_⟩
  rw [writeBack_pairAtSP hwb haborted]
  have hpush := pushResult_storesTwo (di.withPairResult (v rb)) u
  rw [hregs, hsp] at hpush
  exact hpush

/-! ### The stores of a pair (R243, R245, R415) -/

/-- A push of a pair, whatever the pair. -/
theorem writesTwoBytes_of_pushPair {i : Instr} {q : Reg16}
    (hexec : ∀ s, exec i s = cycle handleSplitPair
      { opcode := .push, mode := .registerIndirectDestinationPair, src := some (.r16 q), dst := some (.r16 .sp) } s) :
    WritesTwoBytes i (fun rb => rb.sp - 2 + 1) (fun rb => rb.sp - 2) (fun rb => hi (rb.get16 q))
      (fun rb => lo (rb.get16 q)) id (fun rb => { rb with sp := rb.sp - 2 }) :=
  writesTwoBytes_of_push (mid := id) hexec traitsOf_registerIndirectDestinationPair rfl
    (acquire_none (.inl rfl) (.inl rfl) rfl _) rfl (fun _ => rfl) (fun _ => rfl) fun _ => rfl

theorem writesTwoBytes_ldIndNnSp (nn : Word) :
    WritesTwoBytes (.ldIndNnSp nn) (fun _ => nn) (fun _ => nn + 1) (fun rb => lo rb.sp) (fun rb => hi rb.sp) id id := by
  refine writesTwoBytes_of_cycle (fun _ => rfl) traitsOf_extendedDestinationPair
    (acquire_none (.inr rfl) (.inr rfl) rfl _) rfl fun rb => ⟨_, rfl, fun _ => rfl, fun u hregs haborted => ?_⟩
  rw [writeBack_pairAtImm rfl haborted]
  have hword : StoresTwo (memWriteWord (join (hi nn) (lo nn)) (join (hi rb.sp) (lo rb.sp)) u) u nn (nn + 1)
      (lo rb.sp) (hi rb.sp) rb := by
    obtain rfl : u.regs = rb := hregs
    rw [join_hi_lo, join_hi_lo]
    exact memWriteWord_storesTwo nn u.regs.sp u
  exact hword

/-- Settles O38: the pushes are one cycle over different pairs, and LD (nn),SP is a word write. -/
theorem pairStores : Obligations.PairStores := by
  unfold Obligations.PairStores
  exact ⟨writesTwoBytes_ldIndNnSp, fun _ => writesTwoBytes_of_pushPair fun _ => rfl,
    writesTwoBytes_of_pushPair (q := .ix) fun _ => rfl, writesTwoBytes_of_pushPair (q := .iy) fun _ => rfl⟩

/-! ### Calls and restarts (R360, R361, R372) -/

/-- The DecodedInstruction of a call with that condition. -/
def callDecoded (extra : Byte) (nn : Word) : DecodedInstruction :=
  { opcode := .call, mode := .subRoutineCall, dst := some (.r16 .sp), extra := extra, op1 := lo nn, op2 := hi nn }

theorem handleCall_taken {rb : RegisterBank} {extra : Byte} (h : conditionHolds rb extra = true) (nn : Word) :
    handleCall.result rb (callDecoded extra nn)
      = .ok ({ rb with pc := nn }, (callDecoded extra nn).withPairResult rb.pc, false) := by
  have hnn : (callDecoded extra nn).immediate = nn := join_hi_lo nn
  show executeCall rb (callDecoded extra nn) = _
  unfold executeCall
  rw [hnn]
  exact if_pos h

theorem handleCall_failed {rb : RegisterBank} {extra : Byte} (h : conditionHolds rb extra = false) (nn : Word) :
    handleCall.result rb (callDecoded extra nn) = .ok (rb, callDecoded extra nn, true) :=
  if_neg (by simp [callDecoded, h])

theorem callDecoded_acquire (extra : Byte) (nn : Word) (s : State) :
    acquire { op1 := .atPC, op2 := .atPC, wb := .pairAtSP } (callDecoded extra nn) s = .ok (callDecoded extra nn, s) :=
  acquire_none (.inr rfl) (.inr rfl) rfl _ s

/-- A call whose condition holds pushes PC from the state that has the target in PC, whatever the condition was. -/
theorem cycle_call_taken {s : State} {extra : Byte} (h : conditionHolds s.regs extra = true) (nn : Word) :
    cycle handleCall (callDecoded extra nn) s
      = finish (pushResult ((callDecoded unconditionalExtra nn).withPairResult s.regs.pc)
          (s.done { s.regs with pc := nn })) := by
  rw [cycle_eq_writeBack traitsOf_subRoutineCall (callDecoded_acquire extra nn) rfl (handleCall_taken h nn),
    writeBack_pairAtSP rfl rfl]
  rfl

/-- A call whose condition fails pushes nothing. -/
theorem cycle_call_failed {s : State} {extra : Byte} (h : conditionHolds s.regs extra = false) (nn : Word) :
    cycle handleCall (callDecoded extra nn) s
      = .next (s.withSig { s.sig.quiet false with aborted := true }) := by
  rw [cycle_eq_writeBack traitsOf_subRoutineCall (callDecoded_acquire extra nn) rfl (handleCall_failed h nn),
    writeBack_aborted rfl]
  rfl

theorem exec_callCc_taken {cc : Cond} {s : State} (h : condHolds cc s.regs.f = true) (nn : Word) :
    exec (.callCc cc nn) s = exec (.call nn) s := by
  rw [← conditionHolds_code] at h
  exact (cycle_call_taken h nn).trans (cycle_call_taken (conditionHolds_unconditional s.regs) nn).symm

theorem exec_callCc_failed {cc : Cond} {s : State} (h : condHolds cc s.regs.f = false) (nn : Word) :
    exec (.callCc cc nn) s = .next (s.withSig { s.sig.quiet false with aborted := true }) := by
  rw [← conditionHolds_code] at h
  exact cycle_call_failed h nn

theorem handleRst_result (t : BitVec 3) (rb : RegisterBank) :
    handleRst.result rb (decodedRst t).di
      = .ok ({ rb with pc := BitVec.ofNat 16 (8 * t.toNat) }, (decodedRst t).di.withPairResult rb.pc, false) := by
  rw [← zext_restartExtra]
  rfl

theorem writesTwoBytes_call (nn : Word) :
    WritesTwoBytes (.call nn) (fun rb => rb.sp - 2 + 1) (fun rb => rb.sp - 2) (fun rb => hi rb.pc)
      (fun rb => lo rb.pc) (fun rb => { rb with pc := nn }) (fun rb => { rb with pc := nn, sp := rb.sp - 2 }) :=
  writesTwoBytes_of_push (v := fun rb => rb.pc) (fun _ => rfl) traitsOf_subRoutineCall rfl (callDecoded_acquire _ nn)
    rfl (fun _ => rfl) (fun rb => handleCall_taken (conditionHolds_unconditional rb) nn) fun _ => rfl

theorem writesTwoBytes_rst (t : BitVec 3) :
    WritesTwoBytes (.rst t) (fun rb => rb.sp - 2 + 1) (fun rb => rb.sp - 2) (fun rb => hi rb.pc)
      (fun rb => lo rb.pc) (fun rb => { rb with pc := BitVec.ofNat 16 (8 * t.toNat) })
      (fun rb => { rb with pc := BitVec.ofNat 16 (8 * t.toNat), sp := rb.sp - 2 }) :=
  writesTwoBytes_of_push (v := fun rb => rb.pc) (fun _ => rfl) traitsOf_registerIndirectDestinationPair rfl
    (acquire_none (.inl rfl) (.inl rfl) rfl _) rfl (fun _ => rfl) (handleRst_result t) fun _ => rfl

/-- Settles O52: a call and a restart push PC with the target in PC already; a failed condition aborts step 5. -/
theorem callsAndRestarts : Obligations.CallsAndRestarts := by
  unfold Obligations.CallsAndRestarts
  exact ⟨writesTwoBytes_call, writesTwoBytes_rst, fun cc nn s => ⟨fun h => exec_callCc_taken h nn,
    fun h => exec_callCc_failed h nn⟩⟩

end Sys2Proof.Machine
end

section
/-! SUPPORT. Fetch and step (spec/40_pipeline.md R131, R132, R173): what the opcode fetch leaves, and that a step runs
the instruction that the bytes at PC decode to. -/

namespace Sys2Proof.Machine

/-! ### The descriptors (R139, R149) -/

/-- Settles O22: by the descriptor of each mode. -/
theorem everyModeHasADescriptor : Obligations.EveryModeHasADescriptor := by
  unfold Obligations.EveryModeHasADescriptor
  intro m
  obtain ⟨t, ht⟩ := traitsOf_total m
  refine ⟨t, ht, ?_⟩
  cases m <;> cases ht <;> simp

/-! ### The opcode fetch -/

section Opcode

variable {s : State}

/-- An unprefixed opcode, from whatever answers at PC (R131). -/
theorem fetchOpcode_unprefixed (h : s.accessible s.level s.regs.pc = true)
    (hp : isPrefixByte (s.readValue s.level s.regs.pc) = false) :
    fetchOpcode s = .ok ((s.afterRead s.level s.regs.pc).withRegs
      { s.regs with pir := 0, ir := s.readValue s.level s.regs.pc, pc := s.regs.pc + 1 }) := by
  unfold fetchOpcode
  rw [fetchByte_ok h]
  simp only [ok_bind, hp, Bool.false_eq_true, if_false, State.advancePc, withRegs_regs, withRegs_withRegs,
    afterRead_regs]
  rfl

/-- A prefixed opcode, from whatever answers at PC and after it (R131). -/
theorem fetchOpcode_prefixed (h : s.accessible s.level s.regs.pc = true)
    (h' : s.accessible s.level (s.regs.pc + 1) = true)
    (hp : isPrefixByte (s.readValue s.level s.regs.pc) = true) :
    fetchOpcode s = .ok (((s.afterRead s.level s.regs.pc).afterRead s.level (s.regs.pc + 1)).withRegs
      { s.regs with
        pir := s.readValue s.level s.regs.pc
        ir := (s.afterRead s.level s.regs.pc).readValue s.level (s.regs.pc + 1)
        pc := s.regs.pc + 2 }) := by
  have hpc : s.regs.pc + 1 + 1 = s.regs.pc + 2 := by rw [BitVec.add_assoc]; rfl
  unfold fetchOpcode
  rw [fetchByte_ok h]
  simp only [ok_bind, hp, if_true, State.advancePc, withRegs_regs, withRegs_withRegs, afterRead_regs]
  rw [fetchByte_ok (by simpa using h')]
  simp only [ok_bind, State.advancePc, withRegs_regs, withRegs_level, withRegs_withRegs, afterRead_level,
     afterRead_withRegs, readValue_withRegs, set8_pc, set16_pc_pc, ← hpc]
  rfl

end Opcode

/-- Settles O19: by whether the first byte is in `PREFIX_BYTES`. -/
theorem fetchProperty : Obligations.FetchProperty := by
  unfold Obligations.FetchProperty
  intro s h
  refine ⟨fun hb h' => ⟨_, fetchOpcode_prefixed h h' (isPrefixByte_iff.2 hb), rfl⟩, fun hb => ?_⟩
  have hp : isPrefixByte (s.readValue s.level s.regs.pc) = false :=
    Bool.eq_false_iff.2 fun hp => hb (isPrefixByte_iff.1 hp)
  exact ⟨_, fetchOpcode_unprefixed h hp, rfl⟩

/-! ### A step runs what the bytes decode to (R130, R173) -/

@[simp] theorem holdsBytes_withRegs (s : State) (rb : RegisterBank) (sc : SecurityLevel) (a : Word)
    (bytes : List Byte) : (s.withRegs rb).holdsBytes sc a bytes ↔ s.holdsBytes sc a bytes :=
  holdsBytes_congr (plainByte_withRegs s rb sc) a bytes

@[simp] theorem holdsBytes_withUmsor (s : State) (v : Bool) (sc : SecurityLevel) (a : Word) (bytes : List Byte) :
    (s.withUmsor v).holdsBytes sc a bytes ↔ s.holdsBytes sc a bytes :=
  holdsBytes_congr (plainByte_withSig s _ sc) a bytes

/-- Two runs of bytes, one after the other. -/
theorem holdsBytes_append {s : State} {sc : SecurityLevel} {a : Word} {front back : List Byte} :
    s.holdsBytes sc a (front ++ back)
      ↔ s.holdsBytes sc a front ∧ s.holdsBytes sc (a + BitVec.ofNat 16 front.length) back := by
  induction front generalizing a with
  | nil => simp [State.holdsBytes]
  | cons b front ih =>
    have hlen : a + 1 + BitVec.ofNat 16 front.length = a + BitVec.ofNat 16 (front.length + 1) := by
      rw [BitVec.add_assoc, BitVec.add_comm 1, BitVec.ofNat_add]
      rfl
    simp only [List.cons_append, State.holdsBytes, ih, and_assoc, List.length_cons, hlen]

/-- The opcode fetch reads the opcode bytes of a key and writes the key (R131). -/
theorem fetchOpcode_of_holdsBytes {s : State} {pir ir : Byte} (hkey : FetchedKey pir ir)
    (h : s.holdsBytes s.level s.regs.pc (opcodeBytes pir ir)) :
    fetchOpcode s = .ok (s.withRegs { s.regs with
      pc := s.regs.pc + BitVec.ofNat 16 (opcodeBytes pir ir).length, ir := ir, pir := pir }) := by
  rcases hkey with hp | ⟨rfl, hp⟩
  · rw [opcodeBytes_of_isPrefixByte hp] at h ⊢
    obtain ⟨h0, h1, -⟩ := h
    exact fetchOpcode_plain_prefixed h0 h1 hp
  · rw [opcodeBytes_zero] at h ⊢
    exact fetchOpcode_plain h.1 hp

/-- IR and PIR after a fetch are the key, PC is past all the bytes. -/
theorem afterFetch_opcodeBytes {pir ir : Byte} (hkey : FetchedKey pir ir) (rb : RegisterBank) (tail : List Byte) :
    rb.afterFetch (opcodeBytes pir ir ++ tail)
      = { rb with pc := rb.pc + BitVec.ofNat 16 (opcodeBytes pir ir ++ tail).length, ir := ir, pir := pir } := by
  rcases hkey with hp | ⟨rfl, hp⟩
  · have hmem : pir ∈ Config.prefixBytes := List.contains_iff_mem.1 hp
    rw [opcodeBytes_of_isPrefixByte hp]
    exact if_pos hmem
  · have hmem : ir ∉ Config.prefixBytes := fun hmem => by simp [isPrefixByte, hmem] at hp
    rw [opcodeBytes_zero]
    cases tail with
    | nil => rfl
    | cons x tail => exact if_neg hmem

/-- A template decides `sig.umsor` as the instruction it fills to does. -/
theorem isLdu_of_fill {t : Template} (ht : FillsAtPc t) {bytes rest : List Byte} {i : Instr}
    (h : t.fill bytes = .ok (i, rest)) : t.isLdu = i.isLdu := by
  cases ht with
  | op0 j hmode hldu => cases h; rfl
  | op1 f hmode hldu hfill =>
    match bytes, h with
    | x :: bytes, h =>
      cases h
      rw [← requestsUserSource_eq_isLdu, hfill]
      exact hldu.symm
  | op2 f hmode hldu hfill =>
    match bytes, h with
    | x :: y :: bytes, h =>
      cases h
      rw [← requestsUserSource_eq_isLdu, hfill]
      exact hldu.symm

theorem fetchInstr_of_found {s u v : State} {t : Template} {i : Instr} (hf : fetchOpcode s = .ok u)
    (hl : lookup u.regs.pir u.regs.ir = .found t) (ho : fetchOperands t (u.withUmsor t.isLdu) = .ok (i, v)) :
    fetchInstr s = .instr i v := by
  unfold fetchInstr
  simp only [hf, hl, ho]

/-- Bytes at PC that decode are fetched whole, as the instruction they decode to. -/
theorem fetchInstr_of_decode {s : State} {bytes : List Byte} {i : Instr} (h : decode bytes = .ok (i, []))
    (hb : s.holdsBytes s.level s.regs.pc bytes) :
    fetchInstr s = .instr i ((s.withRegs (s.regs.afterFetch bytes)).withUmsor i.isLdu) := by
  obtain ⟨pir, ir, tail, t, hkey, rfl, hl, hfill⟩ := decode_ok h
  obtain ⟨hopcode, htail⟩ := holdsBytes_append.1 hb
  have hf := fetchOpcode_of_holdsBytes hkey hopcode
  generalize hu : s.withRegs _ = u at hf
  have htail' : (u.withUmsor t.isLdu).holdsBytes (u.withUmsor t.isLdu).level (u.withUmsor t.isLdu).regs.pc tail := by
    subst hu
    rw [holdsBytes_withUmsor, holdsBytes_withRegs]
    exact htail
  rw [fetchInstr_of_found hf (by subst hu; exact hl) (fetchOperands_plain hfill htail'),
    afterFetch_opcodeBytes hkey, isLdu_of_fill (lookup_fillsAtPc hl) hfill, List.length_append, BitVec.ofNat_add,
    ← BitVec.add_assoc]
  subst hu
  rfl

theorem runCycle_of_fetchInstr {s u : State} {i : Instr} (h : fetchInstr s = .instr i u) : runCycle s = exec i u := by
  unfold runCycle
  rw [h]

/-- Settles O21: with no move lined up the turn is the answer to the signals, and the cycle fetches the bytes whole. -/
theorem stepRunsTheDecodedInstruction : Obligations.StepRunsTheDecodedInstruction := by
  unfold Obligations.StepRunsTheDecodedInstruction
  intro s bytes i hm hd hb
  rw [← answerSignals_regs s] at hb ⊢
  unfold step
  rw [hostTurn_nil hm]
  exact runCycle_of_fetchInstr (fetchInstr_of_decode hd hb)

end Sys2Proof.Machine
end

section
/-! SUPPORT. The outer loop's moves and the signals (spec/60_exceptions.md R440, R450): no move, answered or failed,
writes a signal. -/

namespace Sys2Proof.Machine

/-- What accesses leave of the signals. -/
theorem Accessing.keepsSig {α : Type} {s : State} {may : Register → Prop} {st : α → State} {x : Except Fault α}
    (hx : Accessing may s st x) : Yields (fun f => f.left.sig = s.sig) (fun a => (st a).sig = s.sig) x :=
  hx.mono (fun _ h => h.sig) fun _ h => h.sig

/-- A call that changes the state where its condition holds, and fails otherwise. -/
theorem ite_leaves {p : Prop} [Decidable p] {P : State → Prop} {r : HostReply} {s t : State} (ht : P t)
    (hs : P s) : (if p then HostOutcome.reply r t else hostFails s).Leaves P := by
  split
  · exact ht
  · exact hs

theorem loadBytes_leaves_sig (buffer : List Byte) (dest : Word) (s : State) :
    (loadBytes buffer dest s).Leaves fun t => t.sig = s.sig := by
  unfold loadBytes
  split
  · exact rfl
  · exact ite_leaves rfl rfl

theorem memReadWord_accessing (a : Word) (s : State) :
    Accessing (fun _ => False) s (fun p => p.2) (memReadWord a s) :=
  (memReadScope_accessing _ a s).bind fun p h => ((memReadScope_accessing _ (a + 1) p.2).from h).bind fun _ k =>
    yields_ok k

theorem memWriteWord_accessing (a v : Word) (s : State) :
    Accessing (fun _ => False) s id (memWriteWord a v s) :=
  (memWrite_accessing a _ s).bind fun u h => (memWrite_accessing (a + 1) _ u).from h

theorem writeRegister_sig (x : Register) (v : Word) (s : State) : (writeRegister x v s).sig = s.sig := by
  cases x <;> rfl

/-- No move writes a signal, whether it answers or fails. -/
theorem hostMove_leaves_sig (m : HostMove) (s : State) : (hostMove m s).Leaves fun t => t.sig = s.sig := by
  cases m with
  | query q => exact rfl
  | securityLevel => exact rfl
  | setSecurityLevel level => exact rfl
  | readRegister x => exact rfl
  | writeRegister x v => exact writeRegister_sig x v s
  | readWireRegister x =>
    dsimp only [hostMove]
    cases Config.debugWireMap x <;> exact rfl
  | writeWireRegister x v =>
    dsimp only [hostMove]
    cases Config.debugWireMap x with
    | none => exact rfl
    | some y => exact writeRegister_sig y v s
  | readByte a =>
    exact leaves_of_yields (memReadScope_accessing (may := fun _ => False) s.level a s).keepsSig
      (fun _ h => ⟨_, hostMove_readByte_ok h⟩) fun _ h => hostMove_readByte_fault h
  | readWord a =>
    exact leaves_of_yields (memReadWord_accessing a s).keepsSig (fun _ h => ⟨_, hostMove_readWord_ok h⟩)
      fun _ h => hostMove_readWord_fault h
  | writeByte a v =>
    exact leaves_of_yields (memWrite_accessing (may := fun _ => False) a v s).keepsSig
      (fun _ h => ⟨_, hostMove_writeByte_ok h⟩) fun _ h => hostMove_writeByte_fault h
  | writeWord a v =>
    exact leaves_of_yields (memWriteWord_accessing a v s).keepsSig (fun _ h => ⟨_, hostMove_writeWord_ok h⟩)
      fun _ h => hostMove_writeWord_fault h
  | registerResource object first last tag => exact ite_leaves rfl rfl
  | unregisterResource handle tag => exact ite_leaves rfl rfl
  | registerMapped object a tag => exact ite_leaves rfl rfl
  | unregisterMapped a tag => exact ite_leaves rfl rfl
  | load buffer dest bank =>
    cases bank with
    | none => exact loadBytes_leaves_sig buffer dest s
    | some k => trivial
  | switchBank bank slot => trivial

theorem HostOutcome.Leaves.of_reply {P : State → Prop} {o : HostOutcome} {r : HostReply} {t : State}
    (ho : o.Leaves P) (h : o = .reply r t) : P t := by
  subst h
  exact ho

/-- Settles O58: each query is one signal, each access by name one cell or pair. -/
theorem hostRegisterAccess : Obligations.HostRegisterAccess := by
  unfold Obligations.HostRegisterAccess
  intro s
  refine ⟨fun q => ?_, fun _ => rfl, fun _ => rfl, fun _ _ => rfl, fun _ _ => rfl, fun m r t h =>
    (hostMove_leaves_sig m s).of_reply h⟩
  cases q <;> rfl

end Sys2Proof.Machine
end

section
/-! SUPPORT. The cycles that read or store one byte (spec/40_pipeline.md R142 to R147, R165, R166, R168, R169), and
those that touch no memory: the 8-bit loads and stores (spec/41_load8.md, spec/48_index.md R402, R403). -/

namespace Sys2Proof.Machine

/-- A read leaves the RegisterBank in place. -/
theorem afterRead_withRegs_regs (s : State) (sc : SecurityLevel) (a : Word) :
    (s.afterRead sc a).withRegs s.regs = s.afterRead sc a := by
  rw [← afterRead_withRegs, withRegs_self]

/-- A store leaves the RegisterBank in place. -/
theorem afterWrite_withRegs_regs (s : State) (sc : SecurityLevel) (a : Word) (x : Byte) :
    (s.afterWrite sc a x).withRegs s.regs = s.afterWrite sc a x := by
  rw [← afterWrite_withRegs, withRegs_self]

/-! ### No memory touched -/

/-- An instruction whose operands are all in `di` and whose mode has no write-back changes registers alone. -/
theorem registerOnly_of_cycle {i : Instr} {h : Handler} {di : DecodedInstruction} {t : Traits}
    {res : RegisterBank → RegisterBank} (hexec : ∀ s, exec i s = cycle h di s) (ht : traitsOf di.mode = some t)
    (ha : ∀ u, acquire t di u = .ok (di, u)) (hwb : t.wb = .skip) (hu : di.requestsUserSource = false)
    (ho : ∀ g : Signals, g.derive di.opcode = g) (hr : ∀ rb, h.result rb di = .ok (res rb, di, false)) :
    RegisterOnly i res := by
  intro s
  rw [hexec, cycle_eq_writeBack ht ha hu (hr s.regs), ended_of_derive_eq ho, writeBack_skip hwb]
  rfl

/-! ### One byte read -/

/-- Step 3 from `s` reads the byte at `a` in scope `sc`: `put` places it in the DecodedInstruction, and the RegisterBank
is then `rb`. Where nothing is mapped the state is as before. -/
structure AcquiresByte (t : Traits) (di : DecodedInstruction) (s : State) (sc : SecurityLevel) (a : Word)
    (put : Byte → DecodedInstruction) (rb : RegisterBank) : Prop where
  mapped : s.accessible sc a = true →
    acquire t di s = .ok (put (s.readValue sc a), (s.afterRead sc a).withRegs rb)
  unmapped : s.accessible sc a = false → acquire t di s = .error (.memoryUnmapped a s)

section Acquire

variable {t : Traits} {di : DecodedInstruction}

/-- The read through the source pair; `step` is what the mode does to the pair after it (R143, R174). -/
theorem acquiresByte_atRegister (h1 : t.op1 = .atRegister) (h2 : t.op2 = .skip) (h3 : t.op3 = false) {p : Reg16}
    (hp : di.src = some (.r16 p)) {step : RegisterBank → RegisterBank}
    (hstep : ∀ u, stepSrc t di u = .ok (u.withRegs (step u.regs))) (s : State) :
    AcquiresByte t di s (sourceScope s) (s.regs.get16 p) (fun v => { di with op1 := v }) (step s.regs) where
  mapped ha := by
    rw [acquire_atRegister h1 h2 h3 hp ha, hstep, afterRead_regs, ok_map]
  unmapped := acquire_atRegister_fault h1 hp

/-- The displaced read (R145). -/
theorem acquiresByte_indexed (h1 : t.op1 = .atPC) (h2 : t.op2 = .atComposed) (h3 : t.op3 = false) {p : Reg16}
    (hp : di.src = some (.r16 p)) (s : State) :
    AcquiresByte t di s s.level (s.regs.get16 p + sext di.op1) (fun v => { di with op2 := v }) s.regs where
  mapped ha := by
    rw [acquire_indexed h1 h2 h3 hp ha, afterRead_withRegs_regs]
  unmapped ha := by
    simp only [acquire, acquireOp1, acquireOp2, h1, h2, hp, readPairField_r16, orBankError_ok, ok_bind,
      memRead_fault ha, error_bind]

/-- The read at an immediate address (R147). -/
theorem acquiresByte_extended (h1 : t.op1 = .atPC) (h2 : t.op2 = .atPC) (h3 : t.op3 = true) (s : State) :
    AcquiresByte t di s s.level di.immediate (fun v => { di with op3 := v }) s.regs where
  mapped ha := by
    rw [acquire_extended h1 h2 h3 ha, afterRead_withRegs_regs]
  unmapped ha := by
    simp only [acquire, acquireOp1, acquireOp2, acquireOp3, h1, h2, h3, ok_bind, if_true, memRead_fault ha,
      error_bind]

/-- The read of the high window at a register (R142). -/
theorem acquiresByte_implicitReg (h1 : t.op1 = .implicitReg) (h2 : t.op2 = .skip) (h3 : t.op3 = false) {x : Reg8}
    (hx : di.src = some (.r8 x)) (s : State) :
    AcquiresByte t di s s.level ((0xFF : Byte) ++ s.regs.get8 x) (fun v => { di with op1 := v }) s.regs := by
  rw [← highAddress_eq]
  constructor
  case mapped =>
    intro ha
    rw [acquire_implicitReg h1 h2 h3 hx ha, afterRead_withRegs_regs]
  case unmapped =>
    intro ha
    simp only [acquire, acquireOp1, h1, hx, readField_r8, orBankError_ok, ok_bind, memRead_fault ha, error_bind]

/-- The read of the high window at an operand byte (R146). -/
theorem acquiresByte_implicitImm (h1 : t.op1 = .atPC) (h2 : t.op2 = .implicitImm) (h3 : t.op3 = false) (s : State) :
    AcquiresByte t di s s.level ((0xFF : Byte) ++ di.op1) (fun v => { di with op2 := v }) s.regs := by
  rw [← highAddress_eq]
  constructor
  case mapped =>
    intro ha
    rw [acquire_implicitImm h1 h2 h3 ha, afterRead_withRegs_regs]
  case unmapped =>
    intro ha
    simp only [acquire, acquireOp1, acquireOp2, h1, h2, ok_bind, memRead_fault ha, error_bind]

end Acquire

/-- A cycle that reads one byte and has no write-back, in the scope `sc` that step 3 reads: what it completes with, and
where it stops. -/
theorem cycle_of_acquiresByte {h : Handler} {di : DecodedInstruction} {t : Traits} {s : State} {sc : SecurityLevel}
    {a : Word} {put : Byte → DecodedInstruction} {mid : RegisterBank} {res : Byte → RegisterBank}
    (ht : traitsOf di.mode = some t) (hwb : t.wb = .skip)
    (hacq : AcquiresByte t di (s.withUmsor di.requestsUserSource) sc a put mid)
    (ho : ∀ v, ∀ g : Signals, g.derive (put v).opcode = g)
    (hr : ∀ v, h.result mid (put v) = .ok (res v, put v, false)) :
    (s.accessible sc a = true →
      cycle h di s = .next (((s.afterRead sc a).withRegs (res (s.readValue sc a))).withSig
        (s.sig.quiet di.requestsUserSource)))
    ∧ (s.accessible sc a = false →
      cycle h di s = .fault (.memoryUnmapped a (s.withUmsor di.requestsUserSource))) := by
  refine ⟨fun ha => ?_, fun ha => cycle_fault_acquire ht (hacq.unmapped ha)⟩
  rw [cycle_next ht (hacq.mapped ha) (executeStep_of_ok (hr _)) (writeBack_skip hwb _ _), afterRead_withUmsor]
  refine congrArg (fun g => Host.Outcome.next (State.withSig _ g)) ?_
  show Signals.derive _ _ = _
  rw [ho, withRegs_sig, withUmsor_sig, afterRead_sig, resetTransient_withUmsor]

/-- An instruction that reads one byte at the current level and changes registers alone: `mid` is what step 3 makes of
the RegisterBank. -/
theorem readsByte_of_cycle {i : Instr} {h : Handler} {di : DecodedInstruction} {t : Traits} {a : RegisterBank → Word}
    {put : Byte → DecodedInstruction} {mid : RegisterBank → RegisterBank} {res : RegisterBank → Byte → RegisterBank}
    (hexec : ∀ s, exec i s = cycle h di s) (ht : traitsOf di.mode = some t) (hwb : t.wb = .skip)
    (hu : di.requestsUserSource = false)
    (hacq : ∀ s : State, AcquiresByte t di (s.withUmsor false) s.level (a s.regs) put (mid s.regs))
    (ho : ∀ v, ∀ g : Signals, g.derive (put v).opcode = g)
    (hr : ∀ rb v, h.result (mid rb) (put v) = .ok (res rb v, put v, false)) : ReadsByte i a res := by
  intro s
  have hcycle := cycle_of_acquiresByte (s := s) ht hwb (by rw [hu]; exact hacq s) ho (hr s.regs)
  rw [hu, ← hexec] at hcycle
  obtain ⟨hnext, hfault⟩ := hcycle
  refine ⟨fun ha => ?_, hfault⟩
  rw [hnext ha, State.done, afterRead_sig]

/-- The same of an instruction that reads through its source pair. -/
theorem readsByte_of_sourcePair {i : Instr} {h : Handler} {di : DecodedInstruction} {t : Traits} {p : Reg16}
    {step : RegisterBank → RegisterBank} {res : RegisterBank → Byte → RegisterBank}
    (hexec : ∀ s, exec i s = cycle h di s) (ht : traitsOf di.mode = some t) (h1 : t.op1 = .atRegister)
    (h2 : t.op2 = .skip) (h3 : t.op3 = false) (hwb : t.wb = .skip) (hp : di.src = some (.r16 p))
    (hu : di.requestsUserSource = false) (ho : ∀ g : Signals, g.derive di.opcode = g)
    (hstep : ∀ u, stepSrc t di u = .ok (u.withRegs (step u.regs)))
    (hr : ∀ rb v, h.result (step rb) { di with op1 := v } = .ok (res rb v, { di with op1 := v }, false)) :
    ReadsByte i (fun rb => rb.get16 p) res :=
  readsByte_of_cycle hexec ht hwb hu (fun s => acquiresByte_atRegister h1 h2 h3 hp hstep (s.withUmsor false))
    (fun _ => ho) hr

/-! ### One byte stored -/

/-- `w` stores `x` at `a`, from `s` on: the RegisterBank becomes `rb` after it, and the state is as it was where it
faults. -/
structure StoresByte (w : Except Fault State) (s : State) (a : Word) (x : Byte) (rb : RegisterBank) : Prop where
  mapped : s.accessible s.level a = true → w = .ok ((s.afterWrite s.level a x).withRegs rb)
  unmapped : s.accessible s.level a = false → w = .error (.memoryUnmapped a s)

theorem memWrite_storesByte (a : Word) (x : Byte) (s : State) : StoresByte (memWrite a x s) s a x s.regs where
  mapped ha := by
    rw [memWrite_ok ha, afterWrite_withRegs_regs]
  unmapped ha := memWrite_fault ha x

section WriteBack

variable {t : Traits} {di : DecodedInstruction} {s : State}

/-- The store through the destination pair; `step` is what the mode does to the pair after it (R168, R174). -/
theorem storesByte_atRegister (hwb : t.wb = .atRegister) {p : Reg16} (hp : di.dst = some (.r16 p))
    {step : RegisterBank → RegisterBank} (hstep : ∀ u, stepDst t di u = .ok (u.withRegs (step u.regs)))
    (hs : s.sig.aborted = false) :
    StoresByte (writeBack t di s) s (s.regs.get16 p) di.res1 (step s.regs) where
  mapped ha := by
    rw [writeBack_atRegister hwb hp hs, memWrite_ok ha]
    exact (hstep _).trans (by rw [afterWrite_regs])
  unmapped ha := by
    rw [writeBack_atRegister hwb hp hs, memWrite_fault ha]
    rfl

/-- The displaced store (R165). -/
theorem storesByte_indexed (hwb : t.wb = .atOperandAddress) {p : Reg16} (hp : di.dst = some (.r16 p))
    (hs : s.sig.aborted = false) :
    StoresByte (writeBack t di s) s (s.regs.get16 p + sext di.op1) di.res1 s.regs := by
  rw [writeBack_operandAddress hwb hp hs]
  exact memWrite_storesByte _ _ s

/-- The store at an immediate address (R169). -/
theorem storesByte_extended (hwb : t.wb = .atComposed) (hs : s.sig.aborted = false) :
    StoresByte (writeBack t di s) s di.immediate di.res1 s.regs := by
  rw [writeBack_composed hwb hs]
  exact memWrite_storesByte _ _ s

/-- The store into the high window at a register (R166). -/
theorem storesByte_implicitReg (hwb : t.wb = .implicitReg) {x : Reg8} (hx : di.dst = some (.r8 x))
    (hs : s.sig.aborted = false) :
    StoresByte (writeBack t di s) s ((0xFF : Byte) ++ s.regs.get8 x) di.res1 s.regs := by
  rw [writeBack_implicitReg hwb hx hs, ← highAddress_eq]
  exact memWrite_storesByte _ _ s

/-- The store into the high window at an operand byte (R166). -/
theorem storesByte_implicitImm (hwb : t.wb = .implicitImm) (hs : s.sig.aborted = false) :
    StoresByte (writeBack t di s) s ((0xFF : Byte) ++ di.op1) di.res1 s.regs := by
  rw [writeBack_implicitImm hwb hs, ← highAddress_eq]
  exact memWrite_storesByte _ _ s

end WriteBack

/-- An instruction that reads no memory operand, whose handler only puts a byte into `res1`, and whose write-back
stores it. -/
theorem writesByte_of_cycle {i : Instr} {h : Handler} {di : DecodedInstruction} {t : Traits} {a : RegisterBank → Word}
    {v : RegisterBank → Byte} {res : RegisterBank → RegisterBank} (hexec : ∀ s, exec i s = cycle h di s)
    (ht : traitsOf di.mode = some t) (ha : ∀ u, acquire t di u = .ok (di, u)) (hu : di.requestsUserSource = false)
    (ho : ∀ g : Signals, g.derive di.opcode = g)
    (hr : ∀ rb, h.result rb di = .ok (rb, { di with res1 := v rb }, false))
    (hw : ∀ u : State, u.sig.aborted = false →
      StoresByte (writeBack t { di with res1 := v u.regs } u) u (a u.regs) (v u.regs) (res u.regs)) :
    WritesByte i a v res := by
  intro s
  obtain ⟨mapped, unmapped⟩ := hw (s.done s.regs) rfl
  have hcycle : exec i s = finish (writeBack t { di with res1 := v s.regs } (s.done s.regs)) := by
    rw [hexec, cycle_eq_writeBack ht ha hu (hr s.regs), ended_of_derive_eq ho]
    rfl
  rw [hcycle]
  refine ⟨fun ha => ?_, fun ha => ?_⟩
  · refine (congrArg finish (mapped ha)).trans ?_
    simp [State.done, finish]
  · exact congrArg finish (unmapped ha)

/-! ### The loads of an 8-bit register -/

/-- `LD r,(p)` through a pair that the mode leaves (R203, R206, R207). -/
theorem readsByte_of_loadIndirect {i : Instr} {p : Reg16} {r : Reg8}
    (hexec : ∀ s, exec i s = cycle handleLd8
      { opcode := .ld, mode := .registerIndirectSource, src := some (.r16 p), dst := some (.r8 r) } s) :
    ReadsByte i (fun rb => rb.get16 p) fun rb v => rb.set8 r v :=
  readsByte_of_sourcePair (step := id) hexec traitsOf_registerIndirectSource rfl rfl rfl rfl rfl rfl (fun _ => rfl)
    (fun _ => rfl) fun _ _ => rfl

/-- `LD r,(I+d)` (R402). -/
theorem readsByte_of_loadIndexed {i : Instr} {p : Reg16} {r : Reg8} {d : Byte}
    (hexec : ∀ s, exec i s = cycle handleLd8
      { opcode := .ld, mode := .registerIndexedSource, src := some (.r16 p), dst := some (.r8 r), op1 := d } s) :
    ReadsByte i (fun rb => rb.get16 p + sext d) fun rb v => rb.set8 r v :=
  readsByte_of_cycle (mid := id) hexec traitsOf_registerIndexedSource rfl rfl
    (fun s => acquiresByte_indexed rfl rfl rfl rfl (s.withUmsor false)) (fun _ _ => rfl) fun _ _ => rfl

theorem readsByte_ldAIndHlInc :
    ReadsByte .ldAIndHlInc (fun rb => rb.get16 .hl) fun rb v => { rb.set16 .hl (rb.get16 .hl + 1) with a := v } :=
  readsByte_of_sourcePair (step := fun rb => rb.set16 .hl (rb.get16 .hl + 1)) (exec_eq_run .ldAIndHlInc)
    traitsOf_registerIndirectSourceIncrement rfl rfl rfl rfl rfl rfl (fun _ => rfl) (fun _ => rfl) fun _ _ => rfl

theorem readsByte_ldAIndHlDec :
    ReadsByte .ldAIndHlDec (fun rb => rb.get16 .hl) fun rb v => { rb.set16 .hl (rb.get16 .hl - 1) with a := v } :=
  readsByte_of_sourcePair (step := fun rb => rb.set16 .hl (rb.get16 .hl - 1)) (exec_eq_run .ldAIndHlDec)
    traitsOf_registerIndirectSourceDecrement rfl rfl rfl rfl rfl rfl (fun _ => rfl) (fun _ => rfl) fun _ _ => rfl

theorem readsByte_ldAIndNn (nn : Word) : ReadsByte (.ldAIndNn nn) (fun _ => nn) fun rb v => { rb with a := v } := by
  have hnn : (decodedLdAIndNn nn).di.immediate = nn := join_hi_lo nn
  have hread (s : State) := acquiresByte_extended (di := (decodedLdAIndNn nn).di)
    (t := { op1 := .atPC, op2 := .atPC, op3 := true }) rfl rfl rfl (s.withUmsor false)
  rw [hnn] at hread
  exact readsByte_of_cycle (mid := id) (exec_eq_run (.ldAIndNn nn)) traitsOf_extendedSource rfl rfl hread
    (fun _ _ => rfl) fun _ _ => rfl

theorem readsByte_ldAIndC :
    ReadsByte .ldAIndC (fun rb => (0xFF : Byte) ++ rb.c) fun rb v => { rb with a := v } :=
  readsByte_of_cycle (mid := id) (fun _ => rfl) traitsOf_registerImplicitSource rfl rfl
    (fun s => acquiresByte_implicitReg rfl rfl rfl (x := .c) rfl (s.withUmsor false)) (fun _ _ => rfl) fun _ _ => rfl

theorem readsByte_ldhAIndN (n : Byte) :
    ReadsByte (.ldhAIndN n) (fun _ => (0xFF : Byte) ++ n) fun rb v => { rb with a := v } :=
  readsByte_of_cycle (mid := id) (fun _ => rfl) traitsOf_immediateImplicitSource rfl rfl
    (fun s => acquiresByte_implicitImm rfl rfl rfl (s.withUmsor false)) (fun _ _ => rfl) fun _ _ => rfl

theorem registerOnly_ldRR (r r' : Reg8) : RegisterOnly (.ldRR r r') fun rb => rb.set8 r (rb.get8 r') :=
  registerOnly_of_cycle (exec_eq_run (.ldRR r r')) traitsOf_register (acquire_none (.inl rfl) (.inl rfl) rfl _) rfl rfl
    (fun _ => rfl) fun _ => rfl

theorem registerOnly_ldRN (r : Reg8) (n : Byte) : RegisterOnly (.ldRN r n) fun rb => rb.set8 r n :=
  registerOnly_of_cycle (exec_eq_run (.ldRN r n)) traitsOf_immediate (acquire_none (.inr rfl) (.inl rfl) rfl _) rfl rfl
    (fun _ => rfl) fun _ => rfl

/-- Settles O35: each load is one cycle of `Execute_LD8`, by the one byte its mode reads. -/
theorem byteLoads : Obligations.ByteLoads := by
  unfold Obligations.ByteLoads
  exact ⟨registerOnly_ldRR, registerOnly_ldRN, fun _ => readsByte_of_loadIndirect fun _ => rfl,
    readsByte_of_loadIndirect (r := .a) fun _ => rfl, readsByte_of_loadIndirect (r := .a) fun _ => rfl,
    readsByte_ldAIndHlInc, readsByte_ldAIndHlDec, readsByte_ldAIndNn, readsByte_ldAIndC, readsByte_ldhAIndN,
    fun _ _ => readsByte_of_loadIndexed (p := .ix) fun _ => rfl,
    fun _ _ => readsByte_of_loadIndexed (p := .iy) fun _ => rfl⟩

/-! ### The stores of a byte -/

/-- `LD (p),r` through a pair that the mode leaves (R204, R208, R209). -/
theorem writesByte_of_storeIndirect {i : Instr} {p : Reg16} {r : Reg8}
    (hexec : ∀ s, exec i s = cycle handleLd8
      { opcode := .ld, mode := .registerIndirectDestination, src := some (.r8 r), dst := some (.r16 p) } s) :
    WritesByte i (fun rb => rb.get16 p) (fun rb => rb.get8 r) id :=
  writesByte_of_cycle hexec traitsOf_registerIndirectDestination (acquire_none (.inl rfl) (.inl rfl) rfl _) rfl
    (fun _ => rfl) (fun _ => rfl) fun _ => storesByte_atRegister rfl rfl (fun _ => rfl)

/-- `LD (I+d),r` (R403). -/
theorem writesByte_of_storeIndexed {i : Instr} {p : Reg16} {r : Reg8} {d : Byte}
    (hexec : ∀ s, exec i s = cycle handleLd8
      { opcode := .ld, mode := .registerIndexedDestination, src := some (.r8 r), dst := some (.r16 p), op1 := d } s) :
    WritesByte i (fun rb => rb.get16 p + sext d) (fun rb => rb.get8 r) id :=
  writesByte_of_cycle hexec traitsOf_registerIndexedDestination (acquire_none (.inr rfl) (.inl rfl) rfl _) rfl
    (fun _ => rfl) (fun _ => rfl) fun _ => storesByte_indexed rfl rfl

theorem writesByte_ldIndHlN (n : Byte) : WritesByte (.ldIndHlN n) (fun rb => rb.get16 .hl) (fun _ => n) id :=
  writesByte_of_cycle (fun _ => rfl) traitsOf_immediateRegisterIndirect (acquire_none (.inr rfl) (.inl rfl) rfl _) rfl
    (fun _ => rfl) (fun _ => rfl) fun _ => storesByte_atRegister rfl rfl (fun _ => rfl)

theorem writesByte_ldIndHlIncA :
    WritesByte .ldIndHlIncA (fun rb => rb.get16 .hl) (fun rb => rb.a) fun rb => rb.set16 .hl (rb.get16 .hl + 1) :=
  writesByte_of_cycle (fun _ => rfl) traitsOf_registerIndirectDestinationIncrement
    (acquire_none (.inl rfl) (.inl rfl) rfl _) rfl (fun _ => rfl) (fun _ => rfl)
    fun _ => storesByte_atRegister rfl rfl (step := fun rb => rb.set16 .hl (rb.get16 .hl + 1)) (fun _ => rfl)

theorem writesByte_ldIndHlDecA :
    WritesByte .ldIndHlDecA (fun rb => rb.get16 .hl) (fun rb => rb.a) fun rb => rb.set16 .hl (rb.get16 .hl - 1) :=
  writesByte_of_cycle (fun _ => rfl) traitsOf_registerIndirectDestinationDecrement
    (acquire_none (.inl rfl) (.inl rfl) rfl _) rfl (fun _ => rfl) (fun _ => rfl)
    fun _ => storesByte_atRegister rfl rfl (step := fun rb => rb.set16 .hl (rb.get16 .hl - 1)) (fun _ => rfl)

theorem writesByte_ldIndNnA (nn : Word) : WritesByte (.ldIndNnA nn) (fun _ => nn) (fun rb => rb.a) id := by
  have hnn (x : Byte) : DecodedInstruction.immediate { (decodedLdIndNnA nn).di with res1 := x } = nn := join_hi_lo nn
  refine writesByte_of_cycle (exec_eq_run (.ldIndNnA nn)) traitsOf_extendedDestination
    (acquire_none (.inr rfl) (.inr rfl) rfl _) rfl (fun _ => rfl) (fun _ => rfl) fun u hs => ?_
  have hstore := storesByte_extended (di := { (decodedLdIndNnA nn).di with res1 := u.regs.a })
    (t := { op1 := .atPC, op2 := .atPC, wb := .atComposed }) rfl hs
  rw [hnn] at hstore
  exact hstore

theorem writesByte_ldIndCA : WritesByte .ldIndCA (fun rb => (0xFF : Byte) ++ rb.c) (fun rb => rb.a) id :=
  writesByte_of_cycle (fun _ => rfl) traitsOf_registerImplicitDestination (acquire_none (.inl rfl) (.inl rfl) rfl _) rfl
    (fun _ => rfl) (fun _ => rfl) fun _ => storesByte_implicitReg rfl (x := .c) rfl

theorem writesByte_ldhIndNA (n : Byte) :
    WritesByte (.ldhIndNA n) (fun _ => (0xFF : Byte) ++ n) (fun rb => rb.a) id :=
  writesByte_of_cycle (fun _ => rfl) traitsOf_immediateImplicitDestination (acquire_none (.inr rfl) (.inl rfl) rfl _)
    rfl (fun _ => rfl) (fun _ => rfl) fun _ => storesByte_implicitImm rfl

/-- Settles O36: each store is one cycle of `Execute_LD8`, by the address its mode writes back to. -/
theorem byteStores : Obligations.ByteStores := by
  unfold Obligations.ByteStores
  exact ⟨fun _ => writesByte_of_storeIndirect fun _ => rfl, writesByte_ldIndHlN,
    writesByte_of_storeIndirect (r := .a) fun _ => rfl, writesByte_of_storeIndirect (r := .a) fun _ => rfl,
    writesByte_ldIndHlIncA, writesByte_ldIndHlDecA, writesByte_ldIndNnA, writesByte_ldIndCA, writesByte_ldhIndNA,
    fun _ _ => writesByte_of_storeIndexed (p := .ix) fun _ => rfl,
    fun _ _ => writesByte_of_storeIndexed (p := .iy) fun _ => rfl⟩

end Sys2Proof.Machine
end

section
/-! SUPPORT. The 16-bit loads of a register pair, and SP plus a displacement: cycles that touch no memory
(spec/42_load16_stack.md R241, R242, R244, spec/43_alu8.md R304, spec/48_index.md R401, R417). -/

namespace Sys2Proof.Machine

/-! ### The loads of a register pair -/

/-- `LD dd,nn` and `LD I,nn`: the two operand bytes are joined (R241, R401). -/
theorem registerOnly_of_loadImmediatePair {i : Instr} {p : Reg16} {nn : Word}
    (hexec : ∀ s, exec i s = cycle handleLdImmediatePair
      { opcode := .ld, mode := .immediatePair, dst := some (.r16 p), op1 := lo nn, op2 := hi nn } s) :
    RegisterOnly i fun rb => rb.set16 p nn := by
  have hjoined : RegisterOnly i fun rb => rb.set16 p (join (hi nn) (lo nn)) :=
    registerOnly_of_cycle hexec traitsOf_immediatePair (acquire_none (.inr rfl) (.inr rfl) rfl _) rfl rfl
      (fun _ => rfl) fun _ => rfl
  rwa [join_hi_lo] at hjoined

/-- `LD SP,HL` and `LD SP,I` (R242, R417). -/
theorem registerOnly_of_loadRegisterPair {i : Instr} {p q : Reg16}
    (hexec : ∀ s, exec i s = cycle handleLdRegisterPair
      { opcode := .ld, mode := .registerPair, src := some (.r16 q), dst := some (.r16 p) } s) :
    RegisterOnly i fun rb => rb.set16 p (rb.get16 q) :=
  registerOnly_of_cycle hexec traitsOf_registerPair (acquire_none (.inl rfl) (.inl rfl) rfl _) rfl rfl (fun _ => rfl)
    fun _ => rfl

/-- Settles O37: each load is one cycle, of an immediate pair or of a register pair. -/
theorem wordLoads : Obligations.WordLoads := by
  unfold Obligations.WordLoads
  exact ⟨fun _ _ => registerOnly_of_loadImmediatePair fun _ => rfl,
    fun _ => registerOnly_of_loadImmediatePair (p := .ix) fun _ => rfl,
    fun _ => registerOnly_of_loadImmediatePair (p := .iy) fun _ => rfl,
    registerOnly_of_loadRegisterPair (p := .sp) (q := .hl) fun _ => rfl,
    registerOnly_of_loadRegisterPair (p := .sp) (q := .ix) fun _ => rfl,
    registerOnly_of_loadRegisterPair (p := .sp) (q := .iy) fun _ => rfl⟩

/-! ### SP plus a displacement -/

/-- The carry out of bit 3, by the low four bits as masks. -/
theorem displacementH_eq (sp : Word) (e : Byte) :
    displacementH sp e = decide ((sp &&& 0x000F).toNat + (e &&& 0x0F).toNat > 0x0F) := by
  have hsp : (sp &&& 0x000F).toNat = sp.toNat % 16 := Nat.and_two_pow_sub_one_eq_mod sp.toNat 4
  have he : (e &&& 0x0F).toNat = e.toNat % 16 := Nat.and_two_pow_sub_one_eq_mod e.toNat 4
  rw [hsp, he, displacementH]

/-- The carry out of bit 7, by SP's low byte as a mask. -/
theorem displacementC_eq (sp : Word) (e : Byte) :
    displacementC sp e = decide ((sp &&& 0x00FF).toNat + e.toNat > 0xFF) := by
  have hsp : (sp &&& 0x00FF).toNat = sp.toNat % 256 := Nat.and_two_pow_sub_one_eq_mod sp.toNat 8
  rw [hsp, displacementC]

/-- `LD HL,SP+e` and `ADD SP,e`: the four flags are written, then the destination pair (R244, R304). -/
theorem registerOnly_of_addDisplacement {i : Instr} {o : Opcode} {p : Reg16} {e : Byte}
    (hexec : ∀ s, exec i s = cycle handleAddDisplacement
      { opcode := o, mode := .singleImmediatePair, src := some (.r16 .sp), dst := some (.r16 p), op1 := e } s)
    (ho : o = .ld ∨ o = .add) :
    RegisterOnly i fun rb =>
      ({ rb with
          f := flagByte rb.f false false
            (decide ((rb.sp &&& 0x000F).toNat + (e &&& 0x0F).toNat > 0x0F))
            (decide ((rb.sp &&& 0x00FF).toNat + e.toNat > 0xFF)) }).set16 p (rb.sp + e.signExtend 16) := by
  simp only [← displacementH_eq, ← displacementC_eq, ← writeFlags_eq]
  obtain rfl | rfl := ho <;>
    exact registerOnly_of_cycle hexec traitsOf_singleImmediatePair (acquire_none (.inr rfl) (.inl rfl) rfl _) rfl rfl
      (fun _ => rfl) fun _ => rfl

/-- Settles O40: one cycle for both, with HL or SP as its destination pair. -/
theorem stackPointerPlusDisplacement : Obligations.StackPointerPlusDisplacement := by
  unfold Obligations.StackPointerPlusDisplacement
  exact ⟨fun _ => registerOnly_of_addDisplacement (p := .hl) (fun _ => rfl) (.inl rfl),
    fun _ => registerOnly_of_addDisplacement (p := .sp) (fun _ => rfl) (.inr rfl)⟩

end Sys2Proof.Machine
end

section
/-! SUPPORT. The 8-bit arithmetic and logic on integers and bit vectors (spec/43_alu8.md R260, R285, R287), and the
instructions that are one cycle of it: the eight ALU operations in five operand forms, and INC and DEC. -/

namespace Sys2Proof.Machine

/-! ### The results of the eight ALU operations (R260) -/

/-- A plus `v` plus `c`, with the flags of an addition: H and CY are the carries out of bits 3 and 7. -/
def RegisterBank.addToA (rb : RegisterBank) (v : Byte) (c : Nat) : RegisterBank :=
  { rb with
    a := rb.a + v + BitVec.ofNat 8 c
    f := flagByte rb.f (rb.a + v + BitVec.ofNat 8 c == 0) false
      (decide ((rb.a &&& 0x0F).toNat + (v &&& 0x0F).toNat + c > 0x0F)) (decide (rb.a.toNat + v.toNat + c > 0xFF)) }

/-- A minus `v` minus `c`, with the flags of a subtraction: H and CY are the borrows into bits 3 and 7. -/
def RegisterBank.subFromA (rb : RegisterBank) (v : Byte) (c : Nat) : RegisterBank :=
  { rb with
    a := rb.a - v - BitVec.ofNat 8 c
    f := flagByte rb.f (rb.a - v - BitVec.ofNat 8 c == 0) true
      (decide ((rb.a &&& 0x0F).toNat < (v &&& 0x0F).toNat + c)) (decide (rb.a.toNat < v.toNat + c)) }

/-- `res` into A, with the flags of a logic operation. -/
def RegisterBank.logicToA (rb : RegisterBank) (h : Bool) (res : Byte) : RegisterBank :=
  { rb with a := res, f := flagByte rb.f (res == 0) false h false }

/-- A sum taken on integers, without a carry (R260). -/
theorem ofNat_add_zero (a v : Byte) : BitVec.ofNat 8 (a.toNat + v.toNat) = a + v + BitVec.ofNat 8 0 :=
  ofNat_add a v 0

/-- A difference taken on integers, without a borrow (R260). -/
theorem ofInt_sub_zero (a v : Byte) : BitVec.ofInt 8 ((a.toNat : Int) - v.toNat) = a - v - BitVec.ofNat 8 0 := by
  have hres := ofInt_sub a v 0
  rwa [Nat.cast_zero, Int.sub_zero] at hres

theorem applyAlu8_adc (rb : RegisterBank) (v : Byte) :
    applyAlu8 .adc v rb = rb.addToA v (if rb.f.getLsbD 4 then 1 else 0) := by
  rw [applyAlu8_eq]
  simp only [alu8, ofNat_add, nibble_eq]
  rfl

theorem applyAlu8_add (rb : RegisterBank) (v : Byte) : applyAlu8 .add v rb = rb.addToA v 0 := by
  rw [applyAlu8_eq]
  simp only [alu8, ofNat_add_zero, nibble_eq]
  rfl

theorem applyAlu8_sbc (rb : RegisterBank) (v : Byte) :
    applyAlu8 .sbc v rb = rb.subFromA v (if rb.f.getLsbD 4 then 1 else 0) := by
  rw [applyAlu8_eq]
  simp only [alu8, ofInt_sub, nibble_eq]
  rfl

theorem applyAlu8_sub (rb : RegisterBank) (v : Byte) : applyAlu8 .sub v rb = rb.subFromA v 0 := by
  rw [applyAlu8_eq]
  simp only [alu8, ofInt_sub_zero, nibble_eq]
  rfl

/-- CP is SUB but for A. -/
theorem applyAlu8_cp (rb : RegisterBank) (v : Byte) :
    applyAlu8 .cp v rb = { rb.subFromA v 0 with a := rb.a } := by
  rw [← applyAlu8_sub, applyAlu8_eq, applyAlu8_eq]
  rfl

theorem applyAlu8_and (rb : RegisterBank) (v : Byte) : applyAlu8 .and v rb = rb.logicToA true (rb.a &&& v) :=
  applyAlu8_eq .and v rb

theorem applyAlu8_xor (rb : RegisterBank) (v : Byte) : applyAlu8 .xor v rb = rb.logicToA false (rb.a ^^^ v) :=
  applyAlu8_eq .xor v rb

theorem applyAlu8_or (rb : RegisterBank) (v : Byte) : applyAlu8 .or v rb = rb.logicToA false (rb.a ||| v) :=
  applyAlu8_eq .or v rb

/-! ### The eight ALU operations in five operand forms -/

/-- The identity of an ALU operation (R136). -/
def AluOp.opcode : AluOp → Opcode
  | .add => .add
  | .adc => .adc
  | .sub => .sub
  | .sbc => .sbc
  | .and => .and
  | .xor => .xor
  | .or => .or
  | .cp => .cp

theorem AluOp.opcode_ne_ldu (op : AluOp) : (op.opcode == .ldu) = false := by cases op <;> rfl

theorem derive_aluOpcode (op : AluOp) (g : Signals) : g.derive op.opcode = g := by cases op <;> rfl

theorem exec_of_decoded {i : Instr} {h : Handler} {di : DecodedInstruction} (hi : decodedOf i = ⟨h, di⟩)
    (s : State) : exec i s = cycle h di s := by
  rw [exec_eq_run, hi]
  rfl

/-- The rows of an ALU operation: its handler, in the five modes (R261 to R284, R404 to R411). -/
structure AluRows (op : AluOp) (r : Reg8 → Instr) (hl : Instr) (n ix iy : Byte → Instr) : Prop where
  register (x : Reg8) : decodedOf (r x)
    = ⟨handleAlu8 op, { opcode := op.opcode, mode := .register, src := some (.r8 x), dst := some (.r8 .a) }⟩
  indirect : decodedOf hl
    = ⟨handleAlu8 op,
        { opcode := op.opcode, mode := .registerIndirectSource, src := some (.r16 .hl), dst := some (.r8 .a) }⟩
  immediate (b : Byte) : decodedOf (n b)
    = ⟨handleAlu8 op, { opcode := op.opcode, mode := .immediate, dst := some (.r8 .a), op1 := b }⟩
  indexedIx (d : Byte) : decodedOf (ix d)
    = ⟨handleAlu8 op,
        { opcode := op.opcode, mode := .registerIndexedSource, src := some (.r16 .ix), dst := some (.r8 .a),
          op1 := d }⟩
  indexedIy (d : Byte) : decodedOf (iy d)
    = ⟨handleAlu8 op,
        { opcode := op.opcode, mode := .registerIndexedSource, src := some (.r16 .iy), dst := some (.r8 .a),
          op1 := d }⟩

theorem AluRows.operandForms {op : AluOp} {r : Reg8 → Instr} {hl : Instr} {n ix iy : Byte → Instr}
    {res : RegisterBank → Byte → RegisterBank} (rows : AluRows op r hl n ix iy)
    (hres : ∀ rb v, applyAlu8 op v rb = res rb v) : OperandForms r hl n ix iy res :=
  operandForms_of_cycles hres op.opcode_ne_ldu (derive_aluOpcode op) (fun x => exec_of_decoded (rows.register x))
    (exec_of_decoded rows.indirect) (fun b => exec_of_decoded (rows.immediate b))
    (fun d => exec_of_decoded (rows.indexedIx d)) fun d => exec_of_decoded (rows.indexedIy d)

/-- Settles O41: ADD and ADC are one sum, with the carry 0 and with CY. -/
theorem addResults : Obligations.AddResults := by
  unfold Obligations.AddResults
  exact ⟨AluRows.operandForms ⟨fun _ => rfl, rfl, fun _ => rfl, fun _ => rfl, fun _ => rfl⟩ applyAlu8_add,
    AluRows.operandForms ⟨fun _ => rfl, rfl, fun _ => rfl, fun _ => rfl, fun _ => rfl⟩ applyAlu8_adc⟩

/-- Settles O42: SUB, SBC and CP are one difference, with the borrow 0 or CY, and CP puts A back. -/
theorem subtractResults : Obligations.SubtractResults := by
  unfold Obligations.SubtractResults
  exact ⟨AluRows.operandForms ⟨fun _ => rfl, rfl, fun _ => rfl, fun _ => rfl, fun _ => rfl⟩ applyAlu8_sub,
    AluRows.operandForms ⟨fun _ => rfl, rfl, fun _ => rfl, fun _ => rfl, fun _ => rfl⟩ applyAlu8_sbc,
    AluRows.operandForms ⟨fun _ => rfl, rfl, fun _ => rfl, fun _ => rfl, fun _ => rfl⟩ applyAlu8_cp⟩

/-- Settles O43: the three differ in the result, and in H. -/
theorem logicResults : Obligations.LogicResults := by
  unfold Obligations.LogicResults
  exact ⟨AluRows.operandForms ⟨fun _ => rfl, rfl, fun _ => rfl, fun _ => rfl, fun _ => rfl⟩ applyAlu8_and,
    AluRows.operandForms ⟨fun _ => rfl, rfl, fun _ => rfl, fun _ => rfl, fun _ => rfl⟩ applyAlu8_xor,
    AluRows.operandForms ⟨fun _ => rfl, rfl, fun _ => rfl, fun _ => rfl, fun _ => rfl⟩ applyAlu8_or⟩

/-! ### INC and DEC (R285 to R288) -/

/-- A low nibble is compared as a number or as a masked byte. -/
theorem nibble_beq_toNat (v x : Byte) : (nibble v == x.toNat) = (v &&& 0x0F == x) := by
  rw [nibble_eq, Bool.eq_iff_iff, beq_iff_eq, beq_iff_eq, BitVec.toNat_inj]

theorem applyInc8_eq (v : Byte) (rb : RegisterBank) :
    applyInc8 v rb
      = (v + 1, { rb with f := flagByte rb.f (v + 1 == 0) false (v &&& 0x0F == 0x0F) (rb.f.getLsbD 4) }) := by
  have hres : BitVec.ofNat 8 (v.toNat + 1) = v + 1 := by simp [BitVec.ofNat_add]
  have hnibble : (nibble v == 0xF) = (v &&& 0x0F == 0x0F) := nibble_beq_toNat v 0x0F
  simp only [applyInc8, writeZnh_eq, hres, hnibble]
  rfl

theorem applyDec8_eq (v : Byte) (rb : RegisterBank) :
    applyDec8 v rb
      = (v - 1, { rb with f := flagByte rb.f (v - 1 == 0) true (v &&& 0x0F == 0x00) (rb.f.getLsbD 4) }) := by
  have hres : BitVec.ofInt 8 ((v.toNat : Int) - 1) = v - 1 := (ofInt_sub_zero v 1).trans (BitVec.sub_zero _)
  have hnibble : (nibble v == 0x0) = (v &&& 0x0F == 0x00) := nibble_beq_toNat v 0x00
  simp only [applyDec8, writeZnh_eq, hres, hnibble]
  rfl

theorem registerOnly_incR (r : Reg8) :
    RegisterOnly (.incR r) fun rb => (applyInc8 (rb.get8 r) rb).2.set8 r (applyInc8 (rb.get8 r) rb).1 :=
  registerOnly_of_cycle (exec_eq_run (.incR r)) traitsOf_register (acquire_none (.inl rfl) (.inl rfl) rfl _) rfl rfl
    (fun _ => rfl) fun _ => rfl

theorem registerOnly_decR (r : Reg8) :
    RegisterOnly (.decR r) fun rb => (applyDec8 (rb.get8 r) rb).2.set8 r (applyDec8 (rb.get8 r) rb).1 :=
  registerOnly_of_cycle (exec_eq_run (.decR r)) traitsOf_register (acquire_none (.inl rfl) (.inl rfl) rfl _) rfl rfl
    (fun _ => rfl) fun _ => rfl

theorem updatesByte_incIndHl :
    UpdatesByte .incIndHl (fun rb => rb.get16 .hl) (fun rb v => (applyInc8 v rb).1) fun rb v => (applyInc8 v rb).2 :=
  updatesByte_of_cycle rfl (fun _ => rfl) (fun _ _ => rfl) (fun rb v => applyInc8_get16_hl v rb)
    (exec_eq_run .incIndHl)

theorem updatesByte_decIndHl :
    UpdatesByte .decIndHl (fun rb => rb.get16 .hl) (fun rb v => (applyDec8 v rb).1) fun rb v => (applyDec8 v rb).2 :=
  updatesByte_of_cycle rfl (fun _ => rfl) (fun _ _ => rfl) (fun rb v => applyDec8_get16_hl v rb)
    (exec_eq_run .decIndHl)

/-- Settles O44: each instruction puts the byte of `applyInc8` or `applyDec8` back where it took it. -/
theorem incrementResults : Obligations.IncrementResults := by
  unfold Obligations.IncrementResults
  have hincR := registerOnly_incR
  have hincIndHl := updatesByte_incIndHl
  have hdecR := registerOnly_decR
  have hdecIndHl := updatesByte_decIndHl
  simp only [applyInc8_eq] at hincR hincIndHl
  simp only [applyDec8_eq] at hdecR hdecIndHl
  exact ⟨hincR, hincIndHl, hdecR, hdecIndHl⟩

end Sys2Proof.Machine
end

section
/-! SUPPORT. The 16-bit additions, increments and decrements, DAA, CPL, SCF, CCF and NOP: each is one cycle that
touches no memory (spec/44_alu16_misc.md R301 to R303, R305 to R309, spec/48_index.md R412 to R414). -/

namespace Sys2Proof.Machine

/-- An instruction of register or register-pair mode whose Execute always gives the RegisterBank `f rb`. -/
theorem registerOnly_of_decoded {i : Instr} {h : Handler} {di : DecodedInstruction}
    {f res : RegisterBank → RegisterBank} (hi : decodedOf i = ⟨h, di⟩)
    (hm : di.mode = .register ∨ di.mode = .registerPair) (ho : ∀ g : Signals, g.derive di.opcode = g)
    (hr : ∀ rb, h.result rb di = .ok (f rb, di, false)) (hf : ∀ rb, f rb = res rb) : RegisterOnly i res := by
  obtain rfl : f = res := funext hf
  have ht : traitsOf di.mode = some {} := by obtain hm | hm := hm <;> rw [hm] <;> rfl
  have hsrc : isRegisterIndirectSource di.mode = false := by obtain hm | hm := hm <;> rw [hm] <;> rfl
  have hu : di.requestsUserSource = false := by rw [DecodedInstruction.requestsUserSource, hsrc, Bool.and_false]
  exact registerOnly_of_cycle (exec_of_decoded hi) ht (acquire_none (.inl rfl) (.inl rfl) rfl _) rfl hu ho hr

/-! ### 16-bit arithmetic (R301 to R303, R412 to R414) -/

/-- The carry out of bit 11, by the low twelve bits as masks. -/
theorem carry11_eq (a b : Word) :
    carry11 a b = decide ((a &&& 0x0FFF).toNat + (b &&& 0x0FFF).toNat > 0x0FFF) := by
  have hlow (w : Word) : (w &&& 0x0FFF).toNat = w.toNat % 0x1000 := Nat.and_two_pow_sub_one_eq_mod w.toNat 12
  rw [hlow, hlow, carry11]

/-- `ADD HL,ss` and `ADD I,pp`: N, H and CY are written, then the destination pair (R301, R414). -/
theorem registerOnly_of_addPair {i : Instr} {p q : Reg16}
    (hi : decodedOf i
      = ⟨handleAdd16, { opcode := .add, mode := .registerPair, src := some (.r16 q), dst := some (.r16 p) }⟩) :
    RegisterOnly i fun rb =>
      ({ rb with
          f := flagByte rb.f (rb.f.getLsbD 7) false
            (decide ((rb.get16 p &&& 0x0FFF).toNat + (rb.get16 q &&& 0x0FFF).toNat > 0x0FFF))
            (decide ((rb.get16 p).toNat + (rb.get16 q).toNat > 0xFFFF)) }).set16 p (rb.get16 p + rb.get16 q) := by
  refine registerOnly_of_decoded hi (.inr rfl) (fun _ => rfl) (fun _ => rfl) fun rb => ?_
  rw [writeNhc_eq, carry11_eq]
  rfl

/-- `INC ss` and `INC I` (R302, R412). -/
theorem registerOnly_of_incPair {i : Instr} {p : Reg16}
    (hi : decodedOf i
      = ⟨handleInc16, { opcode := .inc, mode := .registerPair, src := some (.r16 p), dst := some (.r16 p) }⟩) :
    RegisterOnly i fun rb => rb.set16 p (rb.get16 p + 1) :=
  registerOnly_of_decoded hi (.inr rfl) (fun _ => rfl) (fun _ => rfl) fun _ => rfl

/-- `DEC ss` and `DEC I` (R303, R413). -/
theorem registerOnly_of_decPair {i : Instr} {p : Reg16}
    (hi : decodedOf i
      = ⟨handleDec16, { opcode := .dec, mode := .registerPair, src := some (.r16 p), dst := some (.r16 p) }⟩) :
    RegisterOnly i fun rb => rb.set16 p (rb.get16 p - 1) :=
  registerOnly_of_decoded hi (.inr rfl) (fun _ => rfl) (fun _ => rfl) fun _ => rfl

/-- Settles O45: one cycle for each operation, with HL, IX, IY or the instruction's own pair as the destination. -/
theorem wordArithmetic : Obligations.WordArithmetic := by
  unfold Obligations.WordArithmetic
  exact ⟨fun _ => registerOnly_of_addPair (p := .hl) rfl, fun _ => registerOnly_of_addPair (p := .ix) rfl,
    fun _ => registerOnly_of_addPair (p := .iy) rfl, fun _ => registerOnly_of_incPair rfl,
    fun _ => registerOnly_of_decPair rfl, registerOnly_of_incPair (p := .ix) rfl,
    registerOnly_of_decPair (p := .ix) rfl, registerOnly_of_incPair (p := .iy) rfl,
    registerOnly_of_decPair (p := .iy) rfl⟩

/-! ### DAA (R305) -/

/-- What DAA adds to or subtracts from the low digit. -/
def daaLow (a : Byte) (n h : Bool) : Byte :=
  if h || (!n && decide ((a &&& 0x0F).toNat > 0x09)) then 0x06 else 0x00

/-- What DAA adds to or subtracts from the high digit. -/
def daaHigh (a : Byte) (n cy : Bool) : Byte :=
  if cy || (!n && decide (a.toNat > 0x99)) then 0x60 else 0x00

/-- The adjustment is one of each digit; CY says whether the high digit was adjusted. -/
theorem daaAdjust_eq (a : Byte) (n h cy : Bool) :
    daaAdjust a n h cy
      = (if n then (a.toNat : Int) - (daaHigh a n cy).toNat - (daaLow a n h).toNat
          else ((a.toNat + (daaHigh a n cy).toNat + (daaLow a n h).toNat : Nat) : Int),
        daaHigh a n cy == 0x60) := by
  unfold daaAdjust daaHigh daaLow
  cases n
  case true => cases h <;> cases cy <;> simp
  case false =>
    simp only [nibble_eq, Bool.not_false, Bool.true_and]
    generalize (cy || decide (a.toNat > 0x99)) = high
    generalize (h || decide ((a &&& 0x0F).toNat > 0x09)) = low
    cases high <;> cases low <;> simp

/-- The adjusted accumulator on bytes. -/
theorem ofInt_daaAdjust (a : Byte) (n h cy : Bool) :
    BitVec.ofInt 8 (daaAdjust a n h cy).1
      = if n then a - daaHigh a n cy - daaLow a n h else a + daaHigh a n cy + daaLow a n h := by
  rw [daaAdjust_eq]
  split
  · rw [ofInt_sub, BitVec.ofNat_toNat, BitVec.setWidth_eq]
  · rw [BitVec.ofInt_natCast, ofNat_add, BitVec.ofNat_toNat, BitVec.setWidth_eq]

/-- Writing into a flag what it holds changes nothing. -/
theorem writeFlag_flag (rb : RegisterBank) (f : Flag) : rb.writeFlag f (rb.flag f) = rb := by
  have hbits : writeBit rb.f f.bit (rb.flag f) = rb.f := by
    refine BitVec.eq_of_getLsbD_eq fun j _ => ?_
    rw [getLsbD_writeBit _ f.bit_lt]
    split
    · next hj => rw [hj, RegisterBank.flag]
    · rfl
  rw [RegisterBank.writeFlag, hbits]

/-- Z, H and CY written; N kept (R305). -/
theorem writeZhc_eq (rb : RegisterBank) (z h cy : Bool) :
    ((rb.writeFlag .z z).writeFlag .h h).writeFlag .cy cy
      = { rb with f := flagByte rb.f z (rb.flag .n) h cy } := by
  have hn : (rb.writeFlag .z z).writeFlag .n (rb.flag .n) = rb.writeFlag .z z := by
    have hkept : (rb.writeFlag .z z).flag .n = rb.flag .n := flag_writeFlag rb .z .n z
    rw [← hkept, writeFlag_flag]
  rw [← writeFlags_eq, RegisterBank.writeFlags, hn]

theorem applyDaa_eq (rb : RegisterBank) :
    applyDaa rb =
      let n := rb.f.getLsbD 6
      let high := daaHigh rb.a n (rb.f.getLsbD 4)
      let low := daaLow rb.a n (rb.f.getLsbD 5)
      let res := if n then rb.a - high - low else rb.a + high + low
      { rb with a := res, f := flagByte rb.f (res == 0) n false (high == 0x60) } := by
  unfold applyDaa
  simp only [writeZhc_eq, ofInt_daaAdjust]
  rw [daaAdjust_eq]
  rfl

/-- Settles O46: Execute of DAA is `applyDaa`. -/
theorem decimalAdjust : Obligations.DecimalAdjust := by
  unfold Obligations.DecimalAdjust
  exact registerOnly_of_decoded (i := .daa) rfl (.inl rfl) (fun _ => rfl) (fun _ => rfl) applyDaa_eq

/-! ### CPL, SCF, CCF and NOP (R306 to R309) -/

/-- N and H set, Z and CY kept (R306). -/
theorem setFlag_n_h_eq (rb : RegisterBank) :
    (rb.setFlag .n).setFlag .h = { rb with f := flagByte rb.f (rb.flag .z) true true (rb.flag .cy) } := by
  rw [← writeZnh_eq, RegisterBank.writeZnh, writeFlag_flag]
  rfl

/-- Settles O47: CPL sets N and H, SCF and CCF write N, H and CY, and NOP's Execute does nothing. -/
theorem accumulatorAndFlagOperations : Obligations.AccumulatorAndFlagOperations := by
  unfold Obligations.AccumulatorAndFlagOperations
  exact ⟨registerOnly_of_decoded (i := .cpl) rfl (.inl rfl) (fun _ => rfl) (fun _ => rfl) fun rb =>
      setFlag_n_h_eq (rb.set8 .a (~~~rb.a)),
    registerOnly_of_decoded (i := .scf) rfl (.inl rfl) (fun _ => rfl) (fun _ => rfl) fun rb =>
      writeNhc_eq rb false false true,
    registerOnly_of_decoded (i := .ccf) rfl (.inl rfl) (fun _ => rfl) (fun _ => rfl) fun rb =>
      writeNhc_eq rb false false (!rb.flag .cy),
    registerOnly_of_decoded (i := .nop) rfl (.inl rfl) (fun _ => rfl) (fun _ => rfl) fun _ => rfl⟩

end Sys2Proof.Machine
end

section
/-! SUPPORT. The rotates, the shifts and BIT, RES and SET, on A, on a register and on the byte at HL
(spec/45_rotate_shift_bit.md R320 to R346). -/

namespace Sys2Proof.Machine

/-! ### The accumulator rotates (R321 to R324) -/

theorem shift_rl (v : Byte) (c : Bool) :
    shift .rl v c = ((v <<< 1) ||| (BitVec.ofBool c).setWidth 8, v.getLsbD 7) := by
  cases c <;> rfl

theorem shift_rr (v : Byte) (c : Bool) :
    shift .rr v c = ((v >>> 1) ||| ((BitVec.ofBool c).setWidth 8 <<< 7), v.getLsbD 0) := by
  cases c <;> rfl

theorem shift_sla (v : Byte) (c : Bool) : shift .sla v c = (v <<< 1, v.getLsbD 7) := rfl

theorem shift_srl (v : Byte) (c : Bool) : shift .srl v c = (v >>> 1, v.getLsbD 0) := rfl

/-- A rotate of A that leaves `res` there and shifts out bit `out`. -/
theorem registerOnly_of_rotateA {i : Instr} {op : ShiftOp} {o : Opcode} {res : Byte → Bool → Byte} {out : Nat}
    (hi : decodedOf i
      = ⟨handleRotateA op, { opcode := o, mode := .register, src := some (.r8 .a), dst := some (.r8 .a) }⟩)
    (ho : ∀ g : Signals, g.derive o = g) (hshift : ∀ v c, shift op v c = (res v c, v.getLsbD out)) :
    RegisterOnly i fun rb =>
      { rb with a := res rb.a (rb.f.getLsbD 4), f := flagByte rb.f false false false (rb.a.getLsbD out) } := by
  refine registerOnly_of_decoded hi (.inl rfl) ho (fun _ => rfl) fun rb => ?_
  rw [writeFlags_eq, hshift]
  rfl

/-- Settles O48: the four rotate A by RLC, RRC, RL and RR. -/
theorem accumulatorRotates : Obligations.AccumulatorRotates := by
  unfold Obligations.AccumulatorRotates
  exact ⟨registerOnly_of_rotateA rfl (fun _ => rfl) shift_rlc, registerOnly_of_rotateA rfl (fun _ => rfl) shift_rrc,
    registerOnly_of_rotateA rfl (fun _ => rfl) shift_rl, registerOnly_of_rotateA rfl (fun _ => rfl) shift_rr⟩

/-! ### A register or the byte at HL changed in place (R320, R343 to R346) -/

/-- The two rows of an operation that puts its result where it took its operand: a register, and the byte at HL. -/
structure ModifyRows (f : RegisterBank → DecodedInstruction → BankResult (RegisterBank × DecodedInstruction))
    (o : Opcode) (extra : Byte) (r : Reg8 → Instr) (hl : Instr) : Prop where
  register (x : Reg8) : decodedOf (r x)
    = ⟨.unconditional f,
        { opcode := o, mode := .register, src := some (.r8 x), dst := some (.r8 x), extra := extra }⟩
  indirect : decodedOf hl
    = ⟨.unconditional f,
        { opcode := o, mode := .registerIndirectSourceAndDestination, src := some (.r16 .hl),
          dst := some (.r16 .hl), extra := extra }⟩

section Modify

variable {f : RegisterBank → DecodedInstruction → BankResult (RegisterBank × DecodedInstruction)} {o : Opcode}
  {extra : Byte} {r : Reg8 → Instr} {hl : Instr} {val : RegisterBank → Byte → Byte}
  {res : RegisterBank → Byte → RegisterBank}

variable (rows : ModifyRows f o extra r hl)
  (hf : ∀ rb di, di.extra = extra → f rb di = (sourceValue rb di).bind fun v => putResult8 (res rb v) di (val rb v))
  (ho : ∀ g : Signals, g.derive o = g)
include rows hf ho

theorem ModifyRows.registerOnly (x : Reg8) :
    RegisterOnly (r x) fun rb => (res rb (rb.get8 x)).set8 x (val rb (rb.get8 x)) := by
  refine registerOnly_of_decoded (rows.register x) (.inl rfl) ho (fun rb => ?_) fun _ => rfl
  rw [Handler.result, hf rb _ rfl]
  rfl

theorem ModifyRows.updatesByte (hldu : (o == .ldu) = false) (hk : ∀ rb v, (res rb v).get16 .hl = rb.get16 .hl) :
    UpdatesByte hl (fun rb => rb.get16 .hl) val res :=
  updatesByte_of_cycle hldu ho (fun rb _ => hf rb _ rfl) hk (exec_of_decoded rows.indirect)

end Modify

/-! ### The rotates and shifts of page 0xCB (R320, R325 to R340) -/

/-- The identity of a shift operation (R136). -/
def ShiftOp.opcode : ShiftOp → Opcode
  | .rlc => .rlc
  | .rrc => .rrc
  | .rl => .rl
  | .rr => .rr
  | .sla => .sla
  | .sra => .sra
  | .swap => .swap
  | .srl => .srl

theorem ShiftOp.opcode_ne_ldu (op : ShiftOp) : (op.opcode == .ldu) = false := by cases op <;> rfl

theorem derive_shiftOpcode (op : ShiftOp) (g : Signals) : g.derive op.opcode = g := by cases op <;> rfl

/-- Both forms of a shift that makes `res` of a byte and CY, and shifts `out` out. -/
theorem shiftForms {op : ShiftOp} {r : Reg8 → Instr} {hl : Instr} {res : Byte → Bool → Byte} {out : Byte → Bool}
    (hshift : ∀ v c, shift op v c = (res v c, out v)) (rows : ModifyRows (executeShift op) op.opcode 0 r hl) :
    let value (rb : RegisterBank) (v : Byte) : Byte := res v (rb.f.getLsbD 4)
    let flags (rb : RegisterBank) (v : Byte) : RegisterBank :=
      { rb with f := flagByte rb.f (value rb v == 0) false false (out v) }
    (∀ x, RegisterOnly (r x) fun rb => (flags rb (rb.get8 x)).set8 x (value rb (rb.get8 x)))
    ∧ UpdatesByte hl (fun rb => rb.get16 .hl) value flags := by
  intro value flags
  have happly (v : Byte) (rb : RegisterBank) : applyShift op v rb = (value rb v, flags rb v) := by
    rw [applyShift, hshift, writeFlags_eq]
    rfl
  have hf (rb : RegisterBank) (di : DecodedInstruction) (_ : di.extra = 0) :
      executeShift op rb di = (sourceValue rb di).bind fun v => putResult8 (flags rb v) di (value rb v) := by
    simp only [executeShift, happly]
    rfl
  exact ⟨rows.registerOnly hf (derive_shiftOpcode op),
    rows.updatesByte hf (derive_shiftOpcode op) op.opcode_ne_ldu fun _ _ => rfl⟩

/-- Settles O49: each operation is one `shift`, in its two forms. -/
theorem rotatesAndShifts : Obligations.RotatesAndShifts := by
  unfold Obligations.RotatesAndShifts
  have rlc := shiftForms (r := .rlcR) (hl := .rlcIndHl) shift_rlc ⟨fun _ => rfl, rfl⟩
  have rrc := shiftForms (r := .rrcR) (hl := .rrcIndHl) shift_rrc ⟨fun _ => rfl, rfl⟩
  have rl := shiftForms (r := .rlR) (hl := .rlIndHl) shift_rl ⟨fun _ => rfl, rfl⟩
  have rr := shiftForms (r := .rrR) (hl := .rrIndHl) shift_rr ⟨fun _ => rfl, rfl⟩
  have sla := shiftForms (r := .slaR) (hl := .slaIndHl) shift_sla ⟨fun _ => rfl, rfl⟩
  have sra := shiftForms (r := .sraR) (hl := .sraIndHl) shift_sra ⟨fun _ => rfl, rfl⟩
  have swap := shiftForms (r := .swapR) (hl := .swapIndHl) shift_swap ⟨fun _ => rfl, rfl⟩
  have srl := shiftForms (r := .srlR) (hl := .srlIndHl) shift_srl ⟨fun _ => rfl, rfl⟩
  exact ⟨rlc, rrc, rl, rr, sla, sra, swap, srl⟩

/-! ### BIT, RES and SET (R341 to R346) -/

/-- What BIT writes: Z, N and H; CY is kept (R341). -/
theorem writeZnh_bitExtra (rb : RegisterBank) (b : BitVec 3) (v : Byte) :
    rb.writeZnh (!v.getLsbD (bitExtra b).toNat) false true
      = { rb with f := flagByte rb.f (!v.getLsbD b.toNat) false true (rb.f.getLsbD 4) } := by
  rw [writeZnh_eq, bitExtra_toNat]
  rfl

theorem registerOnly_bitBR (b : BitVec 3) (r : Reg8) :
    RegisterOnly (.bitBR b r) fun rb =>
      { rb with f := flagByte rb.f (!(rb.get8 r).getLsbD b.toNat) false true (rb.f.getLsbD 4) } :=
  registerOnly_of_decoded (i := .bitBR b r) rfl (.inl rfl) (fun _ => rfl) (fun _ => rfl) fun rb =>
    writeZnh_bitExtra rb b (rb.get8 r)

theorem readsByte_bitBIndHl (b : BitVec 3) :
    ReadsByte (.bitBIndHl b) (fun rb => rb.get16 .hl) fun rb v =>
      { rb with f := flagByte rb.f (!v.getLsbD b.toNat) false true (rb.f.getLsbD 4) } := by
  simp only [← writeZnh_bitExtra]
  exact readsByte_of_sourcePair (step := id) (exec_eq_run (.bitBIndHl b)) traitsOf_registerIndirectSource rfl rfl rfl
    rfl rfl rfl (fun _ => rfl) (fun _ => rfl) fun _ _ => rfl

theorem executeRes_bitExtra {b : BitVec 3} (rb : RegisterBank) (di : DecodedInstruction)
    (hb : di.extra = bitExtra b) :
    executeRes rb di = (sourceValue rb di).bind fun v => putResult8 rb di (v &&& ~~~((1 : Byte) <<< b.toNat)) := by
  rw [← bitMask_bitExtra, ← hb]
  rfl

theorem executeSet_bitExtra {b : BitVec 3} (rb : RegisterBank) (di : DecodedInstruction)
    (hb : di.extra = bitExtra b) :
    executeSet rb di = (sourceValue rb di).bind fun v => putResult8 rb di (v ||| (1 : Byte) <<< b.toNat) := by
  rw [← bitMask_bitExtra, ← hb]
  rfl

theorem modifyRows_res (b : BitVec 3) : ModifyRows executeRes .res (bitExtra b) (.resBR b) (.resBIndHl b) :=
  ⟨fun _ => rfl, rfl⟩

theorem modifyRows_set (b : BitVec 3) : ModifyRows executeSet .set (bitExtra b) (.setBR b) (.setBIndHl b) :=
  ⟨fun _ => rfl, rfl⟩

/-- Settles O50: BIT puts no result back; RES and SET change the byte in place and leave the RegisterBank before it. -/
theorem bitOperations : Obligations.BitOperations := by
  unfold Obligations.BitOperations
  exact ⟨registerOnly_bitBR, readsByte_bitBIndHl,
    fun b => (modifyRows_res b).registerOnly executeRes_bitExtra fun _ => rfl,
    fun b => (modifyRows_res b).updatesByte executeRes_bitExtra (fun _ => rfl) rfl fun _ _ => rfl,
    fun b => (modifyRows_set b).registerOnly executeSet_bitExtra fun _ => rfl,
    fun b => (modifyRows_set b).updatesByte executeSet_bitExtra (fun _ => rfl) rfl fun _ _ => rfl⟩

end Sys2Proof.Machine
end

section
/-! SUPPORT. The jumps and the returns (spec/46_control_transfer.md R350 to R356, R365 to R367, spec/48_index.md R418):
a jump is one cycle that touches no memory, a return one that reads two bytes at SP, each with the condition tested in
step 4. -/

namespace Sys2Proof.Machine

/-! ### Jumps (R352 to R356, R418) -/

/-- The row of a jump: its operand is there when step 3 begins, and its handler puts `target` in PC where the condition
in `di.extra` holds, and leaves the RegisterBank where it fails. -/
structure JumpRow (d : Decoded) (target : RegisterBank → Word) : Prop where
  mode : d.di.mode = .immediate ∨ d.di.mode = .immediatePair ∨ d.di.mode = .registerPair
  opcode : d.di.opcode = .jp ∨ d.di.opcode = .jr
  result : ∀ rb, d.handler.result rb d.di
    = if conditionHolds rb d.di.extra then .ok ({ rb with pc := target rb }, d.di, false) else .ok (rb, d.di, true)

section Jump

variable {d : Decoded} {i : Instr} {target : RegisterBank → Word}

/-- A jump's mode reads no memory operand and has no write-back. -/
theorem JumpRow.traits (row : JumpRow d target) :
    ∃ t, traitsOf d.di.mode = some t ∧ (∀ u, acquire t d.di u = .ok (d.di, u)) ∧ t.wb = .skip := by
  obtain hm | hm | hm := row.mode <;> rw [hm]
  · exact ⟨_, traitsOf_immediate, acquire_none (.inr rfl) (.inl rfl) rfl _, rfl⟩
  · exact ⟨_, traitsOf_immediatePair, acquire_none (.inr rfl) (.inr rfl) rfl _, rfl⟩
  · exact ⟨_, traitsOf_registerPair, acquire_none (.inl rfl) (.inl rfl) rfl _, rfl⟩

theorem JumpRow.derive (row : JumpRow d target) (g : Signals) : g.derive d.di.opcode = g := by
  obtain ho | ho := row.opcode <;> rw [ho] <;> rfl

theorem JumpRow.requestsUserSource (row : JumpRow d target) : d.di.requestsUserSource = false := by
  obtain ho | ho := row.opcode <;> rw [DecodedInstruction.requestsUserSource, ho] <;> rfl

/-- A jump, taken and not taken (R351): `holds` is its condition. -/
theorem JumpRow.run_eq (row : JumpRow d target) {holds : RegisterBank → Bool}
    (hc : ∀ rb, conditionHolds rb d.di.extra = holds rb) (s : State) :
    d.run s = .next (if holds s.regs then s.done { s.regs with pc := target s.regs }
      else s.withSig { s.sig.quiet false with aborted := true }) := by
  obtain ⟨t, ht, ha, hwb⟩ := row.traits
  have hr := row.result s.regs
  rw [← hc, Decoded.run]
  split at hr
  case isTrue htaken =>
    rw [cycle_eq_writeBack ht ha row.requestsUserSource hr, ended_of_derive_eq row.derive, writeBack_skip hwb,
      if_pos htaken]
    rfl
  case isFalse hfails =>
    rw [cycle_eq_writeBack ht ha row.requestsUserSource hr, writeBack_skip hwb, if_neg hfails]
    rfl

/-- An unconditional jump is always taken. -/
theorem JumpRow.registerOnly (row : JumpRow d target) (hexec : ∀ s, exec i s = d.run s)
    (hx : d.di.extra = unconditionalExtra) : RegisterOnly i fun rb => { rb with pc := target rb } := fun s =>
  (hexec s).trans (row.run_eq (holds := fun _ => true) (fun rb => by rw [hx, conditionHolds_unconditional]) s)

/-- A conditional jump is taken where its condition holds. -/
theorem JumpRow.exec_cond (row : JumpRow d target) (hexec : ∀ s, exec i s = d.run s) {cc : Cond}
    (hx : d.di.extra = cc.code) (s : State) :
    exec i s = .next (if condHolds cc s.regs.f then s.done { s.regs with pc := target s.regs }
      else s.withSig { s.sig.quiet false with aborted := true }) :=
  (hexec s).trans
    (row.run_eq (holds := fun rb => condHolds cc rb.f) (fun rb => by rw [hx, conditionHolds_code]) s)

end Jump

/-- The row of a jump to its operand with that condition. -/
def jpDecoded (extra : Byte) (nn : Word) : Decoded :=
  ⟨handleJp, { opcode := .jp, mode := .immediatePair, extra := extra, op1 := lo nn, op2 := hi nn }⟩

/-- `JP nn` and `JP cc,nn` join their two operand bytes (R352, R353). -/
theorem jumpRow_jp (extra : Byte) (nn : Word) : JumpRow (jpDecoded extra nn) fun _ => nn := by
  have hjoined : JumpRow (jpDecoded extra nn) fun _ => join (hi nn) (lo nn) :=
    ⟨.inr (.inl rfl), .inl rfl, fun _ => rfl⟩
  rwa [join_hi_lo] at hjoined

/-- `JP (HL)` and `JP (I)` take the source pair itself (R354, R418). -/
theorem jumpRow_jpPair (p : Reg16) :
    JumpRow ⟨handleJp, { opcode := .jp, mode := .registerPair, src := some (.r16 p), extra := unconditionalExtra }⟩
      fun rb => rb.get16 p where
  mode := .inr (.inr rfl)
  opcode := .inl rfl
  result _ := rfl

/-- `JR e` and `JR cc,e` count from the next instruction (R355, R356). -/
theorem jumpRow_jr (extra e : Byte) :
    JumpRow ⟨handleJr, { opcode := .jr, mode := .immediate, extra := extra, op1 := e }⟩
      fun rb => rb.pc + e.signExtend 16 where
  mode := .inl rfl
  opcode := .inr rfl
  result _ := rfl

/-- Settles O51: every jump is one cycle of `JP` or `JR`, and its encoding's condition decides whether it is taken. -/
theorem jumps : Obligations.Jumps := by
  unfold Obligations.Jumps
  exact ⟨fun nn => (jumpRow_jp unconditionalExtra nn).registerOnly (fun _ => rfl) rfl,
    (jumpRow_jpPair .hl).registerOnly (fun _ => rfl) rfl,
    (jumpRow_jpPair .ix).registerOnly (fun _ => rfl) rfl,
    (jumpRow_jpPair .iy).registerOnly (fun _ => rfl) rfl,
    fun e => (jumpRow_jr unconditionalExtra e).registerOnly (fun _ => rfl) rfl,
    fun cc nn => (jumpRow_jp cc.code nn).exec_cond (fun _ => rfl) rfl,
    fun cc e => (jumpRow_jr cc.code e).exec_cond (fun _ => rfl) rfl⟩

/-! ### Returns (R365 to R367) -/

/-- The DecodedInstruction of a return with that condition. -/
def retDecoded (extra : Byte) : DecodedInstruction :=
  { opcode := .ret, mode := .registerIndirectSourcePair, src := some (.r16 .sp), extra := extra }

theorem handleRet_taken {rb : RegisterBank} {di : DecodedInstruction} (h : conditionHolds rb di.extra = true) :
    handleRet.result rb di = .ok ({ rb with pc := di.immediate }, di, false) :=
  if_pos h

/-- A return whose condition fails undoes the pop of step 3 (R366). -/
theorem handleRet_failed {rb : RegisterBank} {di : DecodedInstruction} (h : conditionHolds rb di.extra = false) :
    handleRet.result { rb with sp := rb.sp + 2 } di = .ok (rb, di, true) := by
  have hsp : rb.set16 .sp (rb.sp + 2 - 2) = rb := by rw [BitVec.add_sub_cancel]; rfl
  calc handleRet.result { rb with sp := rb.sp + 2 } di
      = .ok (rb.set16 .sp (rb.sp + 2 - 2), di, true) := if_neg (Bool.eq_false_iff.1 h)
    _ = .ok (rb, di, true) := by rw [hsp]

/-- A return pops PC where its condition `holds`, and leaves the RegisterBank where it fails; the two stack bytes are
read either way. -/
theorem readsStack_of_ret {i : Instr} {extra : Byte} {holds : RegisterBank → Bool}
    {sig : RegisterBank → Signals → Signals} (hexec : ∀ s, exec i s = cycle handleRet (retDecoded extra) s)
    (hc : ∀ rb, conditionHolds rb extra = holds rb)
    (hsig : ∀ (rb : RegisterBank) (g : Signals),
      sig rb (g.quiet false) = { g.quiet false with aborted := !holds rb }) :
    ReadsStack i (fun rb v => if holds rb then { rb with sp := rb.sp + 2, pc := v } else rb) sig := by
  refine readsStack_of_cycle hexec rfl rfl rfl fun rb low high => ?_
  simp only [hsig]
  cases hh : holds rb with
  | true => exact ⟨_, false, handleRet_taken ((hc rb).trans hh), fun _ => rfl⟩
  | false => exact ⟨_, true, handleRet_failed ((hc rb).trans hh), fun _ => rfl⟩

theorem readsStack_ret : ReadsStack .ret (fun rb v => { rb with sp := rb.sp + 2, pc := v }) fun _ g => g :=
  readsStack_of_ret (holds := fun _ => true) (fun _ => rfl) conditionHolds_unconditional fun _ _ => rfl

theorem readsStack_retCc (cc : Cond) :
    ReadsStack (.retCc cc) (fun rb v => if condHolds cc rb.f then { rb with sp := rb.sp + 2, pc := v } else rb)
      fun rb g => { g with aborted := !condHolds cc rb.f } :=
  readsStack_of_ret (fun _ => rfl) (fun rb => conditionHolds_code rb cc) fun _ _ => rfl

/-- `RETI` has no condition; its identity raises `sig.cis`. -/
theorem readsStack_reti :
    ReadsStack .reti (fun rb v => { rb with sp := rb.sp + 2, pc := v }) fun _ g => { g with cis := true } :=
  readsStack_of_cycle (exec_eq_run .reti) rfl rfl rfl fun _ _ _ => ⟨_, false, rfl, fun _ => rfl⟩

/-- Settles O53: a return is a pop of PC; only step 4 tests the condition, after the two stack bytes are read. -/
theorem returns : Obligations.Returns := by
  unfold Obligations.Returns
  exact ⟨readsStack_ret, readsStack_reti, readsStack_retCc⟩

end Sys2Proof.Machine
end

section
/-! SUPPORT. The privileged instructions (spec/47_system_privilege.md R386 to R392) and the outer loop's turn around a
cycle (spec/60_exceptions.md R441 to R446): LDU is a load that reads User's byte, and a step with no move lined up is
the answer to the signals, then one cycle that keeps the level. -/

namespace Sys2Proof.Machine

/-! ### The answer to the signals (R441, R442) -/

/-- The answer changes the level to User where the reference outer loop sees `sig.umr`, and nothing otherwise. -/
theorem answerSignals_cases (s : State) :
    answerSignals s = s
    ∨ (s.sig.umr = true ∧ s.outerLoop = .reference ∧ answerSignals s = s.withLevel .user) := by
  unfold answerSignals
  split
  case h_1 href =>
    split
    case isTrue humr => exact .inr ⟨humr, href, rfl⟩
    case isFalse => exact .inl rfl
  case h_2 => exact .inl rfl

@[simp] theorem answerSignals_sig (s : State) : (answerSignals s).sig = s.sig := by
  obtain h | ⟨-, -, h⟩ := answerSignals_cases s <;> rw [h]
  rfl

@[simp] theorem answerSignals_hostMoves (s : State) : (answerSignals s).hostMoves = s.hostMoves := by
  obtain h | ⟨-, -, h⟩ := answerSignals_cases s <;> rw [h]
  rfl

/-! ### A step with no move lined up -/

theorem step_eq_runCycle {s : State} (h : s.hostMoves = []) : step s = runCycle (answerSignals s) := by
  unfold step
  rw [hostTurn_nil h]

/-- The reference outer loop answers `sig.umr` before the cycle (R442). -/
theorem step_of_umr {s : State} (h : s.hostMoves = []) (href : s.outerLoop = .reference) (humr : s.sig.umr = true) :
    step s = runCycle (s.withLevel .user) := by
  rw [step_eq_runCycle h, answerSignals, href]
  exact congrArg runCycle (if_pos humr)

/-- A passive outer loop answers no signal (R487). -/
theorem step_of_passive {s : State} (h : s.hostMoves = []) (hpassive : s.outerLoop = .passive) :
    step s = runCycle s := by
  rw [step_eq_runCycle h, answerSignals, hpassive]

/-- A cycle changes no level, no registration, and nothing of the outer loop (R26, R66). -/
theorem runCycle_sameRouting {s t : State} (h : runCycle s = .next t) : s.SameRouting t :=
  (runCycle_stores h).sameRouting

/-- Settles O33: the cycle keeps the level, so a step changes it in the answer to `sig.umr` only. -/
theorem userStaysUser : Obligations.UserStaysUser := by
  unfold Obligations.UserStaysUser
  intro s t hm hstep
  rw [step_eq_runCycle hm] at hstep
  have hkept := runCycle_sameRouting hstep
  refine ⟨?_, fun huser => ?_, fun hsystem huser => ?_⟩
  · rw [hkept.hostMoves, answerSignals_hostMoves, hm]
  · rw [hkept.level, answerSignals_level_user huser]
  · rw [hkept.level] at huser
    obtain h | ⟨humr, href, -⟩ := answerSignals_cases s
    · rw [h, hsystem] at huser
      cases huser
    · exact ⟨humr, href⟩

/-! ### JPU (R392) -/

theorem exec_jpuNn (nn : Word) (s : State) :
    exec (.jpuNn nn) s
      = .next ((s.withRegs { s.regs with pc := nn }).withSig { s.sig.quiet false with umr := true }) := by
  have hjump : handleJpu.result s.regs (decodedJpuNn nn).di
      = .ok ({ s.regs with pc := nn }, (decodedJpuNn nn).di, false) := by
    show Except.ok (s.regs.set16 .pc (join (hi nn) (lo nn)), _, _) = _
    rw [join_hi_lo]
    rfl
  rw [exec_eq_run]
  exact (cycle_eq_writeBack traitsOf_immediatePair (acquire_none (.inr rfl) (.inr rfl) rfl _) rfl hjump).trans
    (congrArg finish (writeBack_skip rfl _ _))

/-- Settles O56: JPU is a cycle that touches no memory, and the next turn of the outer loop sees its `sig.umr`. -/
theorem userModeJump : Obligations.UserModeJump := by
  unfold Obligations.UserModeJump
  intro s nn
  exact ⟨_, exec_jpuNn nn s, rfl, fun hm href => step_of_umr hm href rfl,
    fun hm hpassive => step_of_passive hm hpassive⟩

/-! ### LDU (R386 to R391) -/

/-- `i` loads the byte that User has at `a`, whatever the level, and at User it is `same` but for `sig.umsor`. -/
def LoadsAsUser (i same : Instr) (a : RegisterBank → Word) (res : RegisterBank → Byte → RegisterBank) : Prop :=
  ∀ s : State,
    (s.accessible .user (a s.regs) = true →
      exec i s = .next (((s.afterRead .user (a s.regs)).withRegs
        (res s.regs (s.readValue .user (a s.regs)))).withSig (s.sig.quiet true)))
    ∧ (s.accessible .user (a s.regs) = false →
      exec i s = .fault (.memoryUnmapped (a s.regs) (s.withUmsor true)))
    ∧ (s.level = .user → exec i s = mapOutcome (fun t => t.withUmsor true) (exec same s))

/-- The DecodedInstruction of an LDU from the address in `p` to `r`. -/
def lduDecoded (m : AddressingMode) (p : Reg16) (r : Reg8) : DecodedInstruction :=
  { opcode := .ldu, mode := m, src := some (.r16 p), dst := some (.r8 r) }

/-- An LDU in a mode that reads through its source pair, against the LD of the same operands; `step` is what the mode
does to the pair after the read (R174). -/
theorem loadsAsUser_of_cycle {i same : Instr} {m : AddressingMode} {t : Traits} {p : Reg16} {r : Reg8}
    {step : RegisterBank → RegisterBank} (hexec : ∀ s, exec i s = cycle handleLdu (lduDecoded m p r) s)
    (hm : isRegisterIndirectSource m = true) (ht : traitsOf m = some t) (h1 : t.op1 = .atRegister)
    (h2 : t.op2 = .skip) (h3 : t.op3 = false) (hwb : t.wb = .skip)
    (hstep : ∀ u, stepSrc t (lduDecoded m p r) u = .ok (u.withRegs (step u.regs)))
    (hsame : ReadsByte same (fun rb => rb.get16 p) fun rb v => (step rb).set8 r v) :
    LoadsAsUser i same (fun rb => rb.get16 p) fun rb v => (step rb).set8 r v := by
  intro s
  have hu : (lduDecoded m p r).requestsUserSource = true := hm
  have hcycle := cycle_of_acquiresByte (h := handleLdu) (s := s) (res := fun v => (step s.regs).set8 r v) ht hwb
    (acquiresByte_atRegister h1 h2 h3 rfl hstep _) (fun _ _ => rfl) fun _ => rfl
  rw [hu, ← hexec] at hcycle
  obtain ⟨hnext, hfault⟩ := hcycle
  refine ⟨hnext, hfault, fun huser => ?_⟩
  obtain ⟨hnext', hfault'⟩ := hsame s
  rw [huser] at hnext' hfault'
  cases hacc : s.accessible .user (s.regs.get16 p) with
  | true =>
    rw [hnext hacc, hnext' hacc, State.done, afterRead_sig]
    rfl
  | false =>
    rw [hfault hacc, hfault' hacc]
    rfl

/-- `LDU r,(p)` through a pair that the mode leaves (R387 to R389). -/
theorem loadsAsUser_of_loadIndirect {i same : Instr} {p : Reg16} {r : Reg8}
    (hexec : ∀ s, exec i s = cycle handleLdu (lduDecoded .registerIndirectSource p r) s)
    (hsame : ∀ s, exec same s = cycle handleLd8
      { opcode := .ld, mode := .registerIndirectSource, src := some (.r16 p), dst := some (.r8 r) } s) :
    LoadsAsUser i same (fun rb => rb.get16 p) fun rb v => rb.set8 r v :=
  loadsAsUser_of_cycle (step := id) hexec rfl traitsOf_registerIndirectSource rfl rfl rfl rfl (fun _ => rfl)
    (readsByte_of_loadIndirect hsame)

theorem loadsAsUser_lduAIndHlInc :
    LoadsAsUser .lduAIndHlInc .ldAIndHlInc (fun rb => rb.get16 .hl)
      fun rb v => { rb.set16 .hl (rb.get16 .hl + 1) with a := v } :=
  loadsAsUser_of_cycle (m := .registerIndirectSourceIncrement) (r := .a)
    (step := fun rb => rb.set16 .hl (rb.get16 .hl + 1)) (fun _ => rfl) rfl traitsOf_registerIndirectSourceIncrement
    rfl rfl rfl rfl (fun _ => rfl) readsByte_ldAIndHlInc

theorem loadsAsUser_lduAIndHlDec :
    LoadsAsUser .lduAIndHlDec .ldAIndHlDec (fun rb => rb.get16 .hl)
      fun rb v => { rb.set16 .hl (rb.get16 .hl - 1) with a := v } :=
  loadsAsUser_of_cycle (m := .registerIndirectSourceDecrement) (r := .a)
    (step := fun rb => rb.set16 .hl (rb.get16 .hl - 1)) (fun _ => rfl) rfl traitsOf_registerIndirectSourceDecrement
    rfl rfl rfl rfl (fun _ => rfl) readsByte_ldAIndHlDec

/-- Settles O55: each LDU is the cycle of its LD with the read in the scope of User. -/
theorem userPrivilegedLoads : Obligations.UserPrivilegedLoads := by
  unfold Obligations.UserPrivilegedLoads
  exact ⟨fun _ => loadsAsUser_of_loadIndirect (fun _ => rfl) fun _ => rfl,
    loadsAsUser_of_loadIndirect (r := .a) (fun _ => rfl) fun _ => rfl,
    loadsAsUser_of_loadIndirect (r := .a) (fun _ => rfl) fun _ => rfl,
    loadsAsUser_lduAIndHlInc, loadsAsUser_lduAIndHlDec⟩

/-! ### Runs of the reference outer loop (R441, R446) -/

section Run

variable {s t : State}

theorem referenceRun_succ_fault (n : Nat) {f : Fault} (h : step s = .fault f) :
    referenceRun (n + 1) s = .fault f := by
  rw [referenceRun, h]

theorem referenceRun_succ_halted (n : Nat) (h : step s = .next t) (hhalt : t.sig.halt = true) :
    referenceRun (n + 1) s = .halted t := by
  simp only [referenceRun, h, hhalt, if_true]

theorem referenceRun_succ_stopped (n : Nat) (h : step s = .next t) (hhalt : t.sig.halt = false)
    (hstop : t.sig.stop = true) : referenceRun (n + 1) s = .stopped t := by
  simp only [referenceRun, h, hhalt, hstop, Bool.false_eq_true, if_false, if_true]

theorem referenceRun_succ_running (n : Nat) (h : step s = .next t) (hhalt : t.sig.halt = false)
    (hstop : t.sig.stop = false) : referenceRun (n + 1) s = referenceRun n t := by
  simp only [referenceRun, h, hhalt, hstop, Bool.false_eq_true, if_false]

end Run

/-- A step at a one-byte instruction whose Execute does nothing: PC past the byte, and the signals its identity
gives. -/
theorem step_of_nopByte {s : State} {b : Byte} {i : Instr} {o : Opcode} (hm : s.hostMoves = [])
    (hd : decode [b] = .ok (i, [])) (hexec : ∀ v, exec i v = cycle handleNop { opcode := o, mode := .register } v)
    (hb : (answerSignals s).plainByte (answerSignals s).level s.regs.pc = some b) :
    step s = .next (((answerSignals s).withRegs { s.regs with pc := s.regs.pc + 1, ir := b, pir := 0 }).withSig
      ((s.sig.quiet false).derive o)) := by
  rw [stepRunsTheDecodedInstruction s [b] i hm hd ⟨hb, trivial⟩, hexec, cycle_nop, withUmsor_sig, withRegs_sig,
    answerSignals_sig]
  rfl

/-- Settles O59: HALT and STOP are cycles that raise their signal, and a run looks at the two signals after each
step. -/
theorem runEndsAtHaltStopOrFault : Obligations.RunEndsAtHaltStopOrFault := by
  unfold Obligations.RunEndsAtHaltStopOrFault
  intro n s hm
  refine ⟨fun hb => ?_, fun hb => ?_, fun hpc => ?_, fun _ => referenceRun_succ_fault n,
    fun _ => referenceRun_succ_running n⟩
  · have hstep := step_of_nopByte (i := .halt) (o := .halt) hm (by decide) (fun _ => rfl) hb
    exact referenceRun_succ_halted n hstep rfl
  · have hstep := step_of_nopByte (i := .stop) (o := .stop) hm (by decide) (fun _ => rfl) hb
    exact referenceRun_succ_stopped n hstep rfl rfl
  · have hfetch : fetchOpcode (answerSignals s) = .error (.memoryUnmapped s.regs.pc (answerSignals s)) := by
      rw [fetchOpcode_fault_first (by rwa [answerSignals_regs]), answerSignals_regs]
    exact referenceRun_succ_fault n ((step_eq_runCycle hm).trans (runCycle_fetch_fault hfetch))

end Sys2Proof.Machine
end
